-- ==== Sys2Proof/Word.lean ====
section
/-! DEFINITION. The word types of the block: 32-bit registers, 16-bit samples, stream bytes, complex elements. -/

namespace Sys2Proof

/-- A register, a command word, a floating-point pattern: 32 bits (R6, R95). -/
abbrev Word := BitVec 32

/-- A byte of the frame-source stream (R60). -/
abbrev Byte := BitVec 8

/-- A raw ADC sample: 16 bits, two's complement (R94). -/
abbrev Sample := BitVec 16

/-- A word index on the control port, which carries `addr[31:2]` only (R61): the byte address is four times it. -/
abbrev WordIndex := BitVec 30

/-- A ComplexSample: two 32-bit floating-point patterns, always moved whole (R96). -/
structure ComplexSample where
  re : Word
  im : Word
  deriving DecidableEq, Repr

end Sys2Proof
end

