-- ==== Sys2Proof/Syntax.lean ====
section
/-! DEFINITION. The command set (R91): one constructor per row of spec/opcode_table.json. No command has an operand
field (R90, R93). -/

namespace Sys2Proof

/-- The eight commands of R91. -/
inductive Instr where
  /-- R210: no operation. -/
  | nop
  /-- R180: read one RawFrame from the frame source into RAW. -/
  | load
  /-- R121: Deinterleaver, RAW to CF. -/
  | deint
  /-- R140: Tensor Builder, CF to T0. -/
  | reshape
  /-- R160: Axis Permuter, T0 to T1, T0 released. -/
  | permute
  /-- R181: Frame Pipeline, one iteration. -/
  | frame
  /-- R211: capture one tensor element. -/
  | probe
  /-- R212: acknowledge a recorded error. -/
  | errclr
  deriving DecidableEq, Repr

end Sys2Proof
end

