-- ==== Sys2Proof/WellFormed.lean ====
section
/-! DEFINITION. The checks that can fail before anything runs: of a command word (R90, R92) and of the launch
parameter RAW_CAP (R6, U6). An `Instr` carries no operand, so nothing about one can be ill-formed. -/

namespace Sys2Proof

/-- A command names no operand (R93): every term of `Instr` is well-formed. -/
def Instr.wf : Instr → Bool
  | .nop | .load | .deint | .reshape | .permute | .frame | .probe | .errclr => true

/-- Field ZERO of format C, bits [31:8], is zero (R90). -/
def CommandWord.zeroFieldOk (c : Word) : Bool := c.extractLsb' 8 24 == 0#24

/-- Field OP, bits [7:0], is one of the eight assigned opcodes (R91). -/
def CommandWord.opcodeOk (c : Word) : Bool := decide (c.extractLsb' 0 8 < 8#8)

/-- A word is legal exactly when both checks pass (R92). -/
def CommandWord.wf (c : Word) : Bool := CommandWord.zeroFieldOk c && CommandWord.opcodeOk c

/-- A launch with a RAW_CAP above 2^26 is rejected (R6; U6 `refuse`). -/
def Launch.wf (rawCap : Nat) : Bool := decide (rawCap ≤ 2 ^ 26)

end Sys2Proof
end

