-- ==== Sys2Proof/Decode.lean ====
section
/-! DEFINITION. Command decode and encode (R90 to R92). Decoding is total on 32-bit words and rejects by name;
MODE plays no part in it (R97). -/

namespace Sys2Proof

/-- Why a word is illegal: the two classes of R92. -/
inductive DecodeError where
  /-- `c[31:8] != 0`. -/
  | zeroFieldNotZero
  /-- `c[31:8] = 0` and `c[7:0]` in `[0x08, 0xFF]`. -/
  | opcodeUnassigned
  deriving DecidableEq, Repr

/-- The opcode map of R91, on field OP. -/
def decodeOpcode (op : BitVec 8) : Option Instr :=
  match op.toNat with
  | 0x00 => some .nop
  | 0x01 => some .load
  | 0x02 => some .deint
  | 0x03 => some .reshape
  | 0x04 => some .permute
  | 0x05 => some .frame
  | 0x06 => some .probe
  | 0x07 => some .errclr
  | _ => none

/-- Decoding of a command word (R90, R91, R92). -/
def decode (c : Word) : Except DecodeError Instr :=
  if CommandWord.zeroFieldOk c then
    match decodeOpcode (c.extractLsb' 0 8) with
    | some i => .ok i
    | none => .error .opcodeUnassigned
  else .error .zeroFieldNotZero

/-- The opcode of each command (R91). -/
def opcode : Instr → BitVec 8
  | .nop => 0x00
  | .load => 0x01
  | .deint => 0x02
  | .reshape => 0x03
  | .permute => 0x04
  | .frame => 0x05
  | .probe => 0x06
  | .errclr => 0x07

/-- The one word of a command: format C, field ZERO above the opcode (R90). -/
def encode (i : Instr) : Word := 0#24 ++ opcode i

/-- The decoder on a word of the opcode table: a command is one 32-bit word, so the low `nbits` bits of `w`, zero-extended,
are the word itself. -/
def decodeTableWord (nbits w : Nat) : Option Instr :=
  match decode (BitVec.ofNat 32 (w % 2 ^ nbits)) with
  | .ok i => some i
  | .error _ => none

end Sys2Proof
end

