-- ==== Sys2Proof/Config.lean ====
section
/-! DEFINITION. What the spec leaves to the implementation or the environment: constants with no body, so that no
proof can see their values. -/

namespace Sys2Proof

/-- The OPEN parameter RAW_CAP with its bound `0 <= RAW_CAP <= 2^26` (R6, U6; DESIGN CHOICE, log 1). -/
opaque Config.rawCapParam : Fin (2 ^ 26 + 1)

/-- RAW_CAP, the capacity of the RAW buffer in samples (R6). -/
def Config.rawCap : Nat := Config.rawCapParam.val

/-- The environment's answer "is the source readable?" where the state's plan gives none, one per draw
(R71 answer 3, U4; log 5). -/
opaque Config.srcReadable : Nat → Bool

/-- The word a read of an unassigned address returns, one per draw (R66, U2; log 7). -/
opaque Config.unassignedWord : Nat → Word

/-- The value stored for `FRAME_IDX - 1` when `FRAME_IDX = 0`, which no rule gives and no run reaches
(R10, R237, R42 item 5; log 11). -/
opaque Config.noFrameIndex : Nat → Word

end Sys2Proof
end

