-- ==== Sys2Proof/Machine/State.lean ====
section
/-! DEFINITION. The state of the block (R20, R41), the reasons a step can stop, and the state after reset (R43, R270). -/

namespace Sys2Proof.Machine

/-- MODE (R27); its value 3 is never held, so the type has three (log 15). -/
inductive Mode where
  /-- 0: commands execute. -/
  | ready
  /-- 1: an error is recorded and waits for ERRCLR. -/
  | error
  /-- 2: a terminating or fatal error is recorded; only reset leaves this mode. -/
  | halted
  deriving DecidableEq, Repr

/-- A buffer's valid bit, its length register and its elements (R32 to R35, R37). `data` lists the elements that hold a
value, at indices 0, 1, 2, ...: an index at or beyond its end holds no value (R38; log 10). -/
structure Buffer (α : Type) where
  valid : Bool
  len : Word
  data : List α
  deriving DecidableEq, Repr

/-- A released buffer (R37): valid bit and length 0, no element holds a value. -/
def Buffer.released {α : Type} : Buffer α := { valid := false, len := 0, data := [] }

/-- The four shape registers of a tensor buffer, axis 0 first (R34, R35, R100). -/
structure Shape where
  n0 : Word
  n1 : Word
  n2 : Word
  n3 : Word
  deriving DecidableEq, Repr

/-- The shape registers of a released tensor (R37). -/
def Shape.zero : Shape := { n0 := 0, n1 := 0, n2 := 0, n3 := 0 }

/-- What the outside world does to the block, one event at a time (R61, R270; log 2). The port carries `addr[31:2]` only, so
an address is a word index and a misaligned access cannot be written down (R61, R69; log 17). -/
inductive Input where
  /-- `MemRead(4*a, 4)`. -/
  | memRead (a : WordIndex)
  /-- `MemWrite(4*a, 4, v)`. -/
  | memWrite (a : WordIndex) (v : Word)
  /-- The reset event of R270. -/
  | reset
  deriving DecidableEq, Repr

/-- The state: the block's own state (R20), then the environment's (R41, R61), then the model's own two fields. -/
structure State where
  /-- CFG_F (R23). -/
  cfgF : Word
  /-- CFG_N0 (R24). -/
  cfgN0 : Word
  /-- CFG_N1 (R24). -/
  cfgN1 : Word
  /-- CFG_N2 (R24). -/
  cfgN2 : Word
  /-- CFG_TOTAL (R25). -/
  cfgTotal : Word
  /-- MODE (R27). -/
  mode : Mode
  /-- ERR_CODE (R28). -/
  errCode : Word
  /-- ERR_STAGE (R29). -/
  errStage : Word
  /-- ERR_FRAME (R30). -/
  errFrame : Word
  /-- FRAME_IDX (R31). -/
  frameIdx : Word
  /-- RAW_V, RAW_LEN, RAW (R32). -/
  raw : Buffer Sample
  /-- CF_V, CF_LEN, CF (R33). -/
  cf : Buffer ComplexSample
  /-- T0_V, T0_LEN, T0 (R34). -/
  t0 : Buffer ComplexSample
  /-- T0_SHAPE0..3 (R34). -/
  t0Shape : Shape
  /-- T1_V, T1_LEN, T1 (R35). -/
  t1 : Buffer ComplexSample
  /-- T1_SHAPE0..3 (R35). -/
  t1Shape : Shape
  /-- PROBE_SEL (R39). -/
  probeSel : Word
  /-- PIDX0 (R39). -/
  pidx0 : Word
  /-- PIDX1 (R39). -/
  pidx1 : Word
  /-- PIDX2 (R39). -/
  pidx2 : Word
  /-- PIDX3 (R39). -/
  pidx3 : Word
  /-- PROBE_RE (R39). -/
  probeRe : Word
  /-- PROBE_IM (R39). -/
  probeIm : Word
  /-- PROBE_V (R39). -/
  probeV : Bool
  /-- Environment: the bytes the frame source has not yet delivered (R41, R71; log 4). -/
  rem : List Byte
  /-- Environment: whether the source is readable at each of the next requests with n > 0; past its end the answer is a free
  value (R41, R71, U4; log 5). -/
  srcPlan : List Bool
  /-- Environment: the host's transactions and resets not yet served, first to be served first (R61, R75; log 2). -/
  inputs : List Input
  /-- Environment: the word the transaction just served returned to the host, if it was a read (R61; log 2). -/
  reply : Option Word
  /-- The model's own: the parameter RAW_CAP (R6), which no step changes (log 1). -/
  rawCap : Nat
  /-- The model's own: how many free values have been drawn (log 6). -/
  free : Nat
  deriving DecidableEq, Repr

/-- The stops of the model. None is an error of the block: those are next states (R236). -/
inductive Fault where
  /-- Raised by the control port: a host's read of a window location that holds no value. The spec asks the model to treat
  it as a fault of the host's program (R38, R65, U1). Safe. -/
  | windowNoValue
  /-- Raised by DEINT, RESHAPE, PERMUTE, FRAME and PROBE: a command reads a buffer element that holds no value (R11, R38).
  In no state that a run from reset reaches (R42 item 6). Safe. -/
  | elementNoValue
  deriving DecidableEq, Repr

/-- The reasons a step has no meaning. -/
inductive Refusal where
  /-- Raised by an arm of exec that has no meaning; no arm of this model is one. Safe. -/
  | notModelled (mnemonic : String)
  deriving DecidableEq, Repr

/-- The state after reset: R43's table for the block; for the environment nothing pending, an empty source and no plan; the
parameter RAW_CAP free (logs 1, 2, 4, 5, 6). -/
def State.reset : State where
  cfgF := 0
  cfgN0 := 128
  cfgN1 := 3
  cfgN2 := 4
  cfgTotal := 0
  mode := .ready
  errCode := 0
  errStage := 0
  errFrame := 0
  frameIdx := 0
  raw := .released
  cf := .released
  t0 := .released
  t0Shape := .zero
  t1 := .released
  t1Shape := .zero
  probeSel := 0
  pidx0 := 0
  pidx1 := 0
  pidx2 := 0
  pidx3 := 0
  probeRe := 0
  probeIm := 0
  probeV := false
  rem := []
  srcPlan := []
  inputs := []
  reply := none
  rawCap := Config.rawCap
  free := 0

end Sys2Proof.Machine
end

