-- ==== Sys2Proof/Machine/Operands.lean ====
section
/-! DEFINITION. The implicit operands of the commands (R93): the hardwired tables (R6), the reading of a sample (R67),
its conversion to binary32 (R122), tensor shapes and their row-major index arithmetic (R72, R73). All arithmetic is on natural
numbers (R10). -/

namespace Sys2Proof.Machine

/-! ### The hardwired tables (R6) -/

/-- `DEINT_STRIDE` (R6, R120). -/
def deintStride : Nat := 4

/-- `DEINT_TAB = (0, 2, 1, 3)`: the start offsets of A1, A2, A3, A4 (R6, R120). -/
def deintTab : Nat → Nat
  | 0 => 0
  | 1 => 2
  | 2 => 1
  | _ => 3

/-- `PERM = (1, 2, 0, 3)`: new axis `a` is old axis `PERM[a]` (R6, R160). -/
def permTab : Nat → Nat
  | 0 => 1
  | 1 => 2
  | 2 => 0
  | _ => 3

/-! ### Samples (R9, R67, R94) -/

/-- `i16(lo, hi)`: the pattern `hi || lo`, the byte delivered first being the less significant (R9, R67). -/
def i16 (lo hi : Byte) : Sample := hi ++ lo

/-- The samples of a frame's bytes: sample `s` is `i16(b[2s], b[2s+1])` (R67). -/
def samplesOf : List Byte → List Sample
  | lo :: hi :: rest => i16 lo hi :: samplesOf rest
  | _ => []

/-! ### The conversion of a sample (R122) -/

/-- The largest `e <= bound` with `2^e <= m`, for `m >= 1` (R122). -/
def topBit (m : Nat) : Nat → Nat
  | 0 => 0
  | e + 1 => if 2 ^ (e + 1) ≤ m then e + 1 else topBit m e

/-- `f32_of_i16`: the binary32 pattern whose value is the sample (R95, R122). -/
def f32OfI16 (v : Sample) : Word :=
  let m := v.toInt.natAbs
  if m = 0 then 0
  else
    let s := if v.toInt < 0 then 1 else 0
    let e := topBit m 15
    let frac := (m - 2 ^ e) * 2 ^ (23 - e)
    BitVec.ofNat 32 (s * 2 ^ 31 + (e + 127) * 2 ^ 23 + frac)

/-! ### Shapes (R72, R73, R160) -/

/-- The size of axis `a` of a shape, as the register holds it. -/
def Shape.axis (S : Shape) : Nat → Word
  | 0 => S.n0
  | 1 => S.n1
  | 2 => S.n2
  | _ => S.n3

/-- The number of elements a shape declares: the natural-number product, no wrap-around (R10, R160 step 3). -/
def Shape.card (S : Shape) : Nat := S.n0.toNat * S.n1.toNat * S.n2.toNat * S.n3.toNat

/-- An index tuple is in range (R72). -/
def Shape.inRange (S : Shape) (i j k l : Nat) : Bool :=
  decide (i < S.n0.toNat) && decide (j < S.n1.toNat) && decide (k < S.n2.toNat) && decide (l < S.n3.toNat)

/-- `lin(S, i, j, k, l)`: the row-major flat index (R11, R72). -/
def lin (S : Shape) (i j k l : Nat) : Nat :=
  ((i * S.n1.toNat + j) * S.n2.toNat + k) * S.n3.toNat + l

/-- The index tuple of a flat index: the inverse of `lin` (R73). -/
def unlin (S : Shape) (n : Nat) : Nat × Nat × Nat × Nat :=
  (n / (S.n1.toNat * S.n2.toNat * S.n3.toNat),
   n / (S.n2.toNat * S.n3.toNat) % S.n1.toNat,
   n / S.n3.toNat % S.n2.toNat,
   n % S.n3.toNat)

/-- The permuted shape `M[a] = S[PERM[a]]` (R160 step 4). -/
def Shape.permuted (S : Shape) : Shape where
  n0 := S.axis (permTab 0)
  n1 := S.axis (permTab 1)
  n2 := S.axis (permTab 2)
  n3 := S.axis (permTab 3)

/-- The flat index of T0 that the element at flat index `m` of T1 comes from: with `(i, j, k, l)` the tuple of `m` in the
permuted shape, it is `lin(S, k, i, j, l)` (R160 step 5, R161). -/
def permSource (S : Shape) (m : Nat) : Nat :=
  match unlin S.permuted m with
  | (i, j, k, l) => lin S k i j l

/-- `P = N0 * N1 * N2`, without wrap-around (R140 step 3). -/
def geometryProduct (s : State) : Nat := s.cfgN0.toNat * s.cfgN1.toNat * s.cfgN2.toNat

/-! ### The operands of PROBE (R39, R211) -/

/-- `PROBE_SEL[0]`: true selects T0, false T1; the other bits have no effect (R39). -/
def probeSelectsT0 (s : State) : Bool := s.probeSel.getLsbD 0

/-- The buffer PROBE reads (R211 step 1). -/
def probeBuffer (s : State) : Buffer ComplexSample := if probeSelectsT0 s then s.t0 else s.t1

/-- The shape PROBE reads (R211 step 1). -/
def probeShape (s : State) : Shape := if probeSelectsT0 s then s.t0Shape else s.t1Shape

/-- The flat index PROBE reads (R211 step 3). -/
def probeIndex (s : State) : Nat :=
  lin (probeShape s) s.pidx0.toNat s.pidx1.toNat s.pidx2.toNat s.pidx3.toNat

end Sys2Proof.Machine
end

