-- ==== Sys2Proof/Machine/Flags.lean ====
section
/-! DEFINITION. The flags: the valid bits (R37), DONE (R183), MODE's bits (R27) and the STATUS view built of them (R26). No
command sets a carry, zero, sign or overflow flag (R37). -/

namespace Sys2Proof.Machine

/-- The two bits of MODE as STATUS shows them (R27). -/
def Mode.bits : Mode → BitVec 2
  | .ready => 0
  | .error => 1
  | .halted => 2

/-- DONE: `FRAME_IDX >= CFG_TOTAL`, computed when it is needed (R26, R183). -/
def State.done (s : State) : Bool := decide (s.cfgTotal.toNat ≤ s.frameIdx.toNat)

/-- The STATUS view, its fields from bit 31 down to bit 0 as R26's table lists them. -/
def State.status (s : State) : Word :=
  0#22 ++ s.mode.bits ++ 0#2 ++ BitVec.ofBool s.done ++ BitVec.ofBool s.probeV ++ BitVec.ofBool s.t1.valid
    ++ BitVec.ofBool s.t0.valid ++ BitVec.ofBool s.cf.valid ++ BitVec.ofBool s.raw.valid

end Sys2Proof.Machine
end

