-- ==== Sys2Proof/Machine/Ops.lean ====
section
/-! DEFINITION. The operations the commands share: reading one buffer element, release, production of a buffer, the frame
source, raising an error and returning from one, command acceptance. -/

namespace Sys2Proof.Machine

/-! ### Buffers (R37, R38) -/

/-- `B[n]`: the element at flat index `n`, where the buffer is valid, `n` is below the length register and the location
holds a value (R32 to R35, R38). -/
def Buffer.get? {α : Type} (b : Buffer α) (n : Nat) : Option α :=
  if b.valid && decide (n < b.len.toNat) then b.data[n]? else none

/-- A buffer with the elements just written, its length and its valid bit (R37). -/
def Buffer.produced {α : Type} (len : Word) (data : List α) : Buffer α := { valid := true, len := len, data := data }

/-- `[f n, f (n+1), ..., f (n+k-1)]` where every one of them is a value. -/
def collect {α : Type} (f : Nat → Option α) : Nat → Nat → Option (List α)
  | _, 0 => some []
  | n, k + 1 =>
    match f n with
    | none => none
    | some x =>
      match collect f (n + 1) k with
      | none => none
      | some xs => some (x :: xs)

/-- `release(RAW)` (R37). -/
def releaseRaw (s : State) : State := { s with raw := .released }

/-- `release(CF)` (R37). -/
def releaseCf (s : State) : State := { s with cf := .released }

/-- `release(T0)`: the shape registers too (R37). -/
def releaseT0 (s : State) : State := { s with t0 := .released, t0Shape := .zero }

/-- `release(T1)`: the shape registers too (R37). -/
def releaseT1 (s : State) : State := { s with t1 := .released, t1Shape := .zero }

/-- The release of all four buffers (R180 step 2, R181). -/
def releaseAll (s : State) : State :=
  { s with raw := .released, cf := .released, t0 := .released, t0Shape := .zero, t1 := .released, t1Shape := .zero }

/-- The clearing of the probe capture (R180 step 2, R211 step 2). -/
def clearProbe (s : State) : State := { s with probeRe := 0, probeIm := 0, probeV := false }

/-- The canonical form of one buffer: released, or valid with as many elements as its length register says. -/
def Buffer.wf {α : Type} (b : Buffer α) : Bool :=
  if b.valid then b.data.length == b.len.toNat else b.len == 0 && b.data.isEmpty

/-- The canonical form of the four memories (R37, R38, R42 item 1; log 10): each buffer's own, and zero shape registers beside
an invalid tensor. -/
def Memory.wf (s : State) : Bool :=
  s.raw.wf && s.cf.wf && s.t0.wf && s.t1.wf && (s.t0.valid || s.t0Shape == .zero) && (s.t1.valid || s.t1Shape == .zero)

/-! ### The frame source (R71) -/

/-- The three answers of the frame source (R71). -/
inductive SrcAnswer where
  | bytes (b : List Byte)
  | short
  | unavailable
  deriving DecidableEq, Repr

/-- Whether the source is readable at the request now made: the environment's plan, or a free value past its end
(R41, R71, U4; log 5). -/
def State.sourceReadable (s : State) : Bool :=
  match s.srcPlan with
  | r :: _ => r
  | [] => Config.srcReadable s.free

/-- The environment after it has answered one request for readability. -/
def State.afterRequest (s : State) : State :=
  match s.srcPlan with
  | _ :: rest => { s with srcPlan := rest }
  | [] => { s with free := s.free + 1 }

/-- `SrcRead(n)` (R71): a zero-length request does not touch the source. -/
def srcRead (n : Nat) (s : State) : SrcAnswer × State :=
  if n = 0 then (.bytes [], s)
  else
    let s' := s.afterRequest
    if s.sourceReadable then
      if n ≤ s.rem.length then (.bytes (s.rem.take n), { s' with rem := s.rem.drop n })
      else (.short, { s' with rem := [] })
    else (.unavailable, s')

/-! ### Errors (R233 to R237) -/

/-- The seven errors (R233). -/
inductive ErrorKind where
  | invalidFrameSize
  | shapeMismatch
  | shortRead
  | sourceUnavailable
  | allocationFailure
  | staleOperand
  | illegalCommand
  deriving DecidableEq, Repr

/-- The code of an error (R233). -/
def ErrorKind.code : ErrorKind → Word
  | .invalidFrameSize => 1
  | .shapeMismatch => 2
  | .shortRead => 3
  | .sourceUnavailable => 4
  | .allocationFailure => 5
  | .staleOperand => 6
  | .illegalCommand => 7

/-- MODE after an error (R231, R233, R236 step 3). -/
def ErrorKind.modeAfter : ErrorKind → Mode
  | .shortRead | .sourceUnavailable | .allocationFailure => .halted
  | .invalidFrameSize | .shapeMismatch | .staleOperand | .illegalCommand => .error

/-- The stages an error can arise at (R234). -/
inductive Stage where
  | decode
  | load
  | deint
  | reshape
  | permute
  deriving DecidableEq, Repr

/-- The code of a stage (R234). -/
def Stage.code : Stage → Word
  | .decode => 0
  | .load => 1
  | .deint => 2
  | .reshape => 3
  | .permute => 4

/-- The index of the frame resident in the buffers, `FRAME_IDX - 1` (R237); with `FRAME_IDX = 0`, in no state a run reaches,
no rule gives the value and it is free (R10, R42 item 5; log 11). -/
def residentFrame (s : State) : Word :=
  if s.frameIdx = 0 then Config.noFrameIndex s.free else s.frameIdx - 1

/-- The frame index an error records (R237). -/
def errorFrame (e : ErrorKind) (s : State) : Word :=
  match e with
  | .invalidFrameSize | .shapeMismatch => residentFrame s
  | .shortRead | .sourceUnavailable | .allocationFailure | .staleOperand | .illegalCommand => s.frameIdx

/-- `raise E(stage)`, from the state in which the raising rule's own buffer effects have taken place (R236). -/
def raise (e : ErrorKind) (st : Stage) (s : State) : State :=
  { s with errCode := e.code, errStage := st.code, errFrame := errorFrame e s, mode := e.modeAfter }

/-- The return from ERROR: MODE and the three error registers, nothing else (R212, R243). -/
def returnFromError (s : State) : State :=
  { s with errCode := 0, errStage := 0, errFrame := 0, mode := .ready }

/-! ### The steps of a command (R180 to R182) -/

/-- How a step of a command ends: it is done; it raises an error, its own buffer effects taken; or it met an element that
holds no value. -/
inductive StepEnd where
  | done (s : State)
  | raised (e : ErrorKind) (st : Stage) (s : State)
  | noValue
  deriving DecidableEq, Repr

/-- The next step runs only after the one before it has ended without error (R182). -/
def StepEnd.andThen (r : StepEnd) (f : State → StepEnd) : StepEnd :=
  match r with
  | .done s => f s
  | .raised e st s => .raised e st s
  | .noValue => .noValue

/-- The end of a command that is one step: an error is recorded and the command ends (R236). -/
def StepEnd.finish (r : StepEnd) : Host.Outcome State Fault Refusal :=
  match r with
  | .done s => .next s
  | .raised e st s => .next (raise e st s)
  | .noValue => .fault .elementNoValue

/-- The end of FRAME: on success RAW and CF are released; on an error all four buffers are, then the error is recorded exactly as
the step raised it (R181). -/
def StepEnd.finishFrame (r : StepEnd) : Host.Outcome State Fault Refusal :=
  match r with
  | .done s => .next (releaseCf (releaseRaw s))
  | .raised e st s => .next (raise e st (releaseAll s))
  | .noValue => .fault .elementNoValue

/-! ### Command acceptance (R232) -/

/-- A command other than ERRCLR executes in READY only; in another MODE it is discarded (R232). -/
def whenReady (s : State) (run : Host.Outcome State Fault Refusal) : Host.Outcome State Fault Refusal :=
  match s.mode with
  | .ready => run
  | .error => .next s
  | .halted => .next s

end Sys2Proof.Machine
end

