-- ==== Sys2Proof/Machine/Control.lean ====
section
/-! DEFINITION. The control commands NOP, PROBE, ERRCLR (R210 to R212). -/

namespace Sys2Proof.Machine

/-- NOP (R210): no state changes in any MODE. -/
def execNop (s : State) : Host.Outcome State Fault Refusal := whenReady s (.next s)

/-- PROBE (R211). It never raises. -/
def execProbe (s : State) : Host.Outcome State Fault Refusal :=
  whenReady s <|
    if (probeBuffer s).valid
        && (probeShape s).inRange s.pidx0.toNat s.pidx1.toNat s.pidx2.toNat s.pidx3.toNat then
      match (probeBuffer s).get? (probeIndex s) with
      | some x => .next { s with probeRe := x.re, probeIm := x.im, probeV := true }
      | none => .fault .elementNoValue
    else .next (clearProbe s)

/-- ERRCLR (R212): it executes in READY, where nothing is to clear, and in ERROR; in HALTED it is discarded (R232). -/
def execErrclr (s : State) : Host.Outcome State Fault Refusal :=
  match s.mode with
  | .ready => .next s
  | .error => .next (returnFromError s)
  | .halted => .next s

end Sys2Proof.Machine
end

