-- ==== Sys2Proof/Machine/Deinterleave.lean ====
section
/-! DEFINITION. The Deinterleaver: the command DEINT (R120 to R124). -/

namespace Sys2Proof.Machine

/-- Element `m` of the ComplexFrame: with `q = floor(m / 2)` and `r = m mod 2`, its real part is the sample of A1 (r = 0) or A3
(r = 1) at `q`, its imaginary part that of A2 or A4 (R120, R121 step 5). -/
def deintElement (raw : Buffer Sample) (m : Nat) : Option ComplexSample :=
  match raw.get? (deintStride * (m / 2) + deintTab (2 * (m % 2))),
    raw.get? (deintStride * (m / 2) + deintTab (2 * (m % 2) + 1)) with
  | some x, some y => some { re := f32OfI16 x, im := f32OfI16 y }
  | _, _ => none

/-- The deinterleave step (R121 steps 1 to 6), also used by FRAME. -/
def deintStep (s : State) : StepEnd :=
  if s.raw.valid then
    let s1 := releaseCf s
    let n := s.raw.len.toNat
    if n % deintStride = 0 then
      let count := 2 * (n / deintStride)
      match collect (deintElement s.raw) 0 count with
      | none => .noValue
      | some elements => .done { s1 with cf := .produced (BitVec.ofNat 32 count) elements }
    else .raised .invalidFrameSize .deint s1
  else .raised .staleOperand .deint s

/-- DEINT (R121). -/
def execDeint (s : State) : Host.Outcome State Fault Refusal := whenReady s (deintStep s).finish

end Sys2Proof.Machine
end

