-- ==== Sys2Proof/Machine/Permute.lean ====
section
/-! DEFINITION. The Axis Permuter: the command PERMUTE (R160 to R164). -/

namespace Sys2Proof.Machine

/-- The permute step (R160 steps 1 to 7), also used by FRAME. T1 is written in the order of its flat index, which no rule
makes observable (R124; log 18). -/
def permuteStep (s : State) : StepEnd :=
  if s.t0.valid then
    let s1 := releaseT1 s
    let S := s.t0Shape
    let L := s.t0.len.toNat
    if S.card = L then
      match collect (fun m => s.t0.get? (permSource S m)) 0 L with
      | none => .noValue
      | some elements =>
        .done (releaseT0 { s1 with t1 := .produced s.t0.len elements, t1Shape := S.permuted })
    else .raised .shapeMismatch .permute (releaseT0 s1)
  else .raised .staleOperand .permute s

/-- PERMUTE (R160). -/
def execPermute (s : State) : Host.Outcome State Fault Refusal := whenReady s (permuteStep s).finish

end Sys2Proof.Machine
end

