-- ==== Sys2Proof/Machine/Reshape.lean ====
section
/-! DEFINITION. The Tensor Builder: the command RESHAPE (R140 to R142). -/

namespace Sys2Proof.Machine

/-- The reshape step (R140 steps 1 to 6), also used by FRAME. -/
def reshapeStep (s : State) : StepEnd :=
  if s.cf.valid then
    let s1 := releaseT0 s
    let L := s.cf.len.toNat
    let P := geometryProduct s
    if P = 0 ∨ L % P ≠ 0 then .raised .shapeMismatch .reshape s1
    else
      match collect s.cf.get? 0 L with
      | none => .noValue
      | some elements =>
        .done { s1 with
          t0 := .produced s.cf.len elements
          t0Shape := { n0 := s.cfgN0, n1 := s.cfgN1, n2 := s.cfgN2, n3 := BitVec.ofNat 32 (L / P) } }
  else .raised .staleOperand .reshape s

/-- RESHAPE (R140). -/
def execReshape (s : State) : Host.Outcome State Fault Refusal := whenReady s (reshapeStep s).finish

end Sys2Proof.Machine
end

