-- ==== Sys2Proof/Machine/Pipeline.lean ====
section
/-! DEFINITION. The Frame Pipeline: the commands LOAD and FRAME (R180 to R183). -/

namespace Sys2Proof.Machine

/-- The frame read step (R180 steps 2 to 6), also used by FRAME. -/
def frameReadStep (s : State) : StepEnd :=
  let s1 := clearProbe (releaseAll s)
  let n := s.cfgF.toNat
  if s.rawCap < n then .raised .allocationFailure .load s1
  else
    match srcRead (2 * n) s1 with
    | (.unavailable, s2) => .raised .sourceUnavailable .load s2
    | (.short, s2) => .raised .shortRead .load s2
    | (.bytes b, s2) => .done { s2 with raw := .produced s.cfgF (samplesOf b), frameIdx := s.frameIdx + 1 }

/-- LOAD (R180): step 1 is the DONE test. -/
def execLoad (s : State) : Host.Outcome State Fault Refusal :=
  whenReady s (if s.done then .next s else (frameReadStep s).finish)

/-- The four steps of FRAME in their fixed order (R181 steps 2 to 5, R182). -/
def frameSteps (s : State) : StepEnd :=
  (((frameReadStep s).andThen deintStep).andThen reshapeStep).andThen permuteStep

/-- FRAME (R181): step 1 is the DONE test. -/
def execFrame (s : State) : Host.Outcome State Fault Refusal :=
  whenReady s (if s.done then .next s else (frameSteps s).finishFrame)

end Sys2Proof.Machine
end

