-- ==== Sys2Proof/Machine/Dispatch.lean ====
section
/-! DEFINITION. The meaning of each command (R91), one arm per row of the opcode table. -/

namespace Sys2Proof.Machine

def exec (i : Instr) (s : State) : Host.Outcome State Fault Refusal :=
  match i with
  | .nop => Sys2Proof.Machine.execNop s
  | .load => Sys2Proof.Machine.execLoad s
  | .deint => Sys2Proof.Machine.execDeint s
  | .reshape => Sys2Proof.Machine.execReshape s
  | .permute => Sys2Proof.Machine.execPermute s
  | .frame => Sys2Proof.Machine.execFrame s
  | .probe => Sys2Proof.Machine.execProbe s
  | .errclr => Sys2Proof.Machine.execErrclr s

end Sys2Proof.Machine
end

