-- ==== Sys2Proof/Machine/Registers.lean ====
section
/-! DEFINITION. The register map (R45, R62) and the value and the write of each register (R213). -/

namespace Sys2Proof.Machine

/-- The registers of R45. -/
inductive Reg where
  | cmd | status | errCode | errStage | errFrame | frameIdx
  | cfgF | cfgN0 | cfgN1 | cfgN2 | cfgTotal
  | rawLen | cfLen | t0Len | t1Len
  | t0Shape0 | t0Shape1 | t0Shape2 | t0Shape3
  | t1Shape0 | t1Shape1 | t1Shape2 | t1Shape3
  | probeSel | pidx0 | pidx1 | pidx2 | pidx3 | probeRe | probeIm
  deriving DecidableEq, Repr

/-- All registers, in the order of their addresses. -/
def Reg.all : List Reg :=
  [.cmd, .status, .errCode, .errStage, .errFrame, .frameIdx,
   .cfgF, .cfgN0, .cfgN1, .cfgN2, .cfgTotal,
   .rawLen, .cfLen, .t0Len, .t1Len,
   .t0Shape0, .t0Shape1, .t0Shape2, .t0Shape3, .t1Shape0, .t1Shape1, .t1Shape2, .t1Shape3,
   .probeSel, .pidx0, .pidx1, .pidx2, .pidx3, .probeRe, .probeIm]

/-- The byte address of a register (R45). -/
def Reg.addr : Reg → Word
  | .cmd => 0x000
  | .status => 0x004
  | .errCode => 0x008
  | .errStage => 0x00C
  | .errFrame => 0x010
  | .frameIdx => 0x014
  | .cfgF => 0x020
  | .cfgN0 => 0x024
  | .cfgN1 => 0x028
  | .cfgN2 => 0x02C
  | .cfgTotal => 0x030
  | .rawLen => 0x040
  | .cfLen => 0x044
  | .t0Len => 0x048
  | .t1Len => 0x04C
  | .t0Shape0 => 0x050
  | .t0Shape1 => 0x054
  | .t0Shape2 => 0x058
  | .t0Shape3 => 0x05C
  | .t1Shape0 => 0x060
  | .t1Shape1 => 0x064
  | .t1Shape2 => 0x068
  | .t1Shape3 => 0x06C
  | .probeSel => 0x070
  | .pidx0 => 0x074
  | .pidx1 => 0x078
  | .pidx2 => 0x07C
  | .pidx3 => 0x080
  | .probeRe => 0x084
  | .probeIm => 0x088

/-- The value a read of a register returns: CMD reads 0 (R40), STATUS is assembled at the read (R26), every other register
returns what it holds (R213). -/
def State.readReg (s : State) : Reg → Word
  | .cmd => 0
  | .status => s.status
  | .errCode => s.errCode
  | .errStage => s.errStage
  | .errFrame => s.errFrame
  | .frameIdx => s.frameIdx
  | .cfgF => s.cfgF
  | .cfgN0 => s.cfgN0
  | .cfgN1 => s.cfgN1
  | .cfgN2 => s.cfgN2
  | .cfgTotal => s.cfgTotal
  | .rawLen => s.raw.len
  | .cfLen => s.cf.len
  | .t0Len => s.t0.len
  | .t1Len => s.t1.len
  | .t0Shape0 => s.t0Shape.n0
  | .t0Shape1 => s.t0Shape.n1
  | .t0Shape2 => s.t0Shape.n2
  | .t0Shape3 => s.t0Shape.n3
  | .t1Shape0 => s.t1Shape.n0
  | .t1Shape1 => s.t1Shape.n1
  | .t1Shape2 => s.t1Shape.n2
  | .t1Shape3 => s.t1Shape.n3
  | .probeSel => s.probeSel
  | .pidx0 => s.pidx0
  | .pidx1 => s.pidx1
  | .pidx2 => s.pidx2
  | .pidx3 => s.pidx3
  | .probeRe => s.probeRe
  | .probeIm => s.probeIm

/-- A host's write to a register that executes no command: all 32 bits are stored where R45 says RW, and the write is
ignored where it says RO (R36, R213). A write to CMD is not served here (R40): it stores nothing. -/
def State.writeReg (s : State) (r : Reg) (v : Word) : State :=
  match r with
  | .cfgF => { s with cfgF := v }
  | .cfgN0 => { s with cfgN0 := v }
  | .cfgN1 => { s with cfgN1 := v }
  | .cfgN2 => { s with cfgN2 := v }
  | .cfgTotal => { s with cfgTotal := v }
  | .probeSel => { s with probeSel := v }
  | .pidx0 => { s with pidx0 := v }
  | .pidx1 => { s with pidx1 := v }
  | .pidx2 => { s with pidx2 := v }
  | .pidx3 => { s with pidx3 := v }
  | .cmd => s
  | .status => s
  | .errCode => s
  | .errStage => s
  | .errFrame => s
  | .frameIdx => s
  | .rawLen => s
  | .cfLen => s
  | .t0Len => s
  | .t1Len => s
  | .t0Shape0 => s
  | .t0Shape1 => s
  | .t0Shape2 => s
  | .t0Shape3 => s
  | .t1Shape0 => s
  | .t1Shape1 => s
  | .t1Shape2 => s
  | .t1Shape3 => s
  | .probeRe => s
  | .probeIm => s

end Sys2Proof.Machine
end

