-- ==== Sys2Proof/Machine/Port.lean ====
section
/-! DEFINITION. The control port: the address map (R62), reads (R63 to R66, R213), writes (R65, R66, R213, R232) and the
reset event (R270, R272). -/

namespace Sys2Proof.Machine

/-- The four read windows (R62). -/
inductive Window where
  | raw
  | cf
  | t0
  | t1
  deriving DecidableEq, Repr

/-- What a word of the control-port space is (R62). -/
inductive Target where
  /-- A register of R45. -/
  | reg (r : Reg)
  /-- Word `w` of a window region (R63 to R65). -/
  | window (b : Window) (w : Nat)
  /-- Unassigned (R66). -/
  | unassigned
  deriving DecidableEq, Repr

/-- The byte address of a word of the port (R61). -/
def byteAddr (a : WordIndex) : Word := a ++ 0#2

/-- The word of the port a register stands at. -/
def Reg.word (r : Reg) : WordIndex := r.addr.extractLsb' 2 30

/-- The address map (R62, R66): the region is `addr[31:28]`, the word of a window region is `addr[27:2]`. -/
def target (a : WordIndex) : Target :=
  match (a.extractLsb' 26 4).toNat with
  | 0 =>
    match Reg.all.find? (fun r => r.addr == byteAddr a) with
    | some r => .reg r
    | none => .unassigned
  | 1 => .window .raw (a.extractLsb' 0 26).toNat
  | 2 => .window .cf (a.extractLsb' 0 26).toNat
  | 3 => .window .t0 (a.extractLsb' 0 26).toNat
  | 4 => .window .t1 (a.extractLsb' 0 26).toNat
  | _ => .unassigned

/-- The number of words of a window (R62): RAW_CAP for RAW, 2 * C_CAP for the others. -/
def windowExtent (b : Window) (s : State) : Nat :=
  match b with
  | .raw => s.rawCap
  | .cf | .t0 | .t1 => 2 * (s.rawCap / 2)

/-- Word `w` of the window of a complex buffer: the real part at the even word, the imaginary part at the odd one (R64). -/
def complexWord (b : Buffer ComplexSample) (w : Nat) : Option Word :=
  match b.get? (w / 2) with
  | some x => some (if w % 2 = 0 then x.re else x.im)
  | none => none

/-- The word a window location holds, where it holds a value (R63, R64, R65): samples are sign-extended. -/
def windowWord (b : Window) (w : Nat) (s : State) : Option Word :=
  if w < windowExtent b s then
    match b with
    | .raw => (s.raw.get? w).map (fun x => x.signExtend 32)
    | .cf => complexWord s.cf w
    | .t0 => complexWord s.t0 w
    | .t1 => complexWord s.t1 w
  else none

/-- `MemRead`: no read changes the block's state (R70). A window location without a value stops the model (R38, R65, U1; log 8);
an unassigned address returns a free value (R66, U2; log 7). -/
def serveRead (a : WordIndex) (s : State) : Host.Outcome State Fault Refusal :=
  match target a with
  | .reg r => .next { s with reply := some (s.readReg r) }
  | .window b w =>
    match windowWord b w s with
    | some v => .next { s with reply := some v }
    | none => .fault .windowNoValue
  | .unassigned => .next { s with reply := some (Config.unassignedWord s.free), free := s.free + 1 }

/-- A write of word `c` to CMD (R40, R232): a legal word is executed by its own rule, which MODE may turn into a discard; an
illegal one raises IllegalCommand in READY and is discarded otherwise (R92). -/
def serveCommand (c : Word) (s : State) : Host.Outcome State Fault Refusal :=
  match decode c with
  | .ok i => exec i s
  | .error _ => whenReady s (.next (raise .illegalCommand .decode s))

/-- `MemWrite`: writes to windows, to unassigned addresses and to read-only registers are ignored (R65, R66, R213). -/
def serveWrite (a : WordIndex) (v : Word) (s : State) : Host.Outcome State Fault Refusal :=
  match target a with
  | .reg r => if r = .cmd then serveCommand v s else .next (s.writeReg r v)
  | .window _ _ => .next s
  | .unassigned => .next s

/-- The reset event (R270): every register and flag of the block takes its reset value; the frame source, the host's further
transactions and the parameter stay as they are (R272; log 16). -/
def resetEvent (s : State) : State :=
  { State.reset with
    rem := s.rem, srcPlan := s.srcPlan, inputs := s.inputs, reply := s.reply, rawCap := s.rawCap, free := s.free }

/-- The service of one event (R61, R75, R270). -/
def serve (x : Input) (s : State) : Host.Outcome State Fault Refusal :=
  match x with
  | .memRead a => serveRead a s
  | .memWrite a v => serveWrite a v s
  | .reset => .next (resetEvent s)

/-- The queue after its first event has been taken from it, the reply to the event before it gone. -/
def takeInput (rest : List Input) (s : State) : State := { s with inputs := rest, reply := none }

/-- The write of a command word, as the host makes it (R90). -/
def commandInput (c : Word) : Input := .memWrite Reg.cmd.word c

end Sys2Proof.Machine
end

