-- ==== Sys2Proof/Machine/Step.lean ====
section
/-! DEFINITION. One step: the service of the host's next event (R7, R61, R75). -/

namespace Sys2Proof.Machine

/-- One step serves the first pending event, whole; with none pending the block waits and nothing changes (R271; log 13). -/
def step (s : State) : Host.Outcome State Fault Refusal :=
  match s.inputs with
  | [] => .next s
  | x :: rest => serve x (takeInput rest s)

/-- `s` with the write of a command word to CMD as the very next event: where the block takes its next command from (R22;
log 3). -/
def State.withFetchWord (s : State) (nbits w : Nat) : State :=
  { s with inputs := commandInput (BitVec.ofNat 32 (w % 2 ^ nbits)) :: s.inputs }

end Sys2Proof.Machine
end

