-- ==== Sys2Proof/Safety.lean ====
section
/-! DEFINITION. What counts as a safe state and a safe end of a step: the invariants of R42, and what it means that a command
completes. -/

namespace Sys2Proof.Machine

/-- A command or a step completes: it answers a next state (not a fault, not a refusal). -/
def Completes (o : Host.Outcome State Fault Refusal) : Prop := ∃ t, o = .next t

/-- The invariants of R42 that speak of one state (items 1 to 5, 8, 9), with the bound on RAW_CAP (R6) and two facts of the same
kind about the error report (R231, R233) and the probe capture (R39). -/
structure Invariants (s : State) : Prop where
  /-- R42 item 1, and the canonical form of the buffers (R37, R38). -/
  memory : Memory.wf s = true
  /-- R42 item 2. -/
  rawFits : s.raw.valid = true → s.raw.len.toNat ≤ s.rawCap
  /-- R42 item 3. -/
  cfFromRaw : s.cf.valid = true → s.raw.valid = true ∧ s.raw.len.toNat % 4 = 0
    ∧ s.cf.len.toNat = s.raw.len.toNat / 2 ∧ s.cf.len.toNat ≤ s.rawCap / 2
    ∧ ∀ n < s.cf.len.toNat, s.cf.get? n = deintElement s.raw n
  /-- R42 item 4, T0. -/
  t0Fits : s.t0.valid = true → s.t0Shape.card = s.t0.len.toNat ∧ s.t0.len.toNat ≤ s.rawCap / 2
  /-- R42 item 4, T1. -/
  t1Fits : s.t1.valid = true → s.t1Shape.card = s.t1.len.toNat ∧ s.t1.len.toNat ≤ s.rawCap / 2
  /-- R42 item 5, first half. -/
  frameCounted : (s.raw.valid || s.cf.valid || s.t0.valid || s.t1.valid) = true → 1 ≤ s.frameIdx.toNat
  /-- R42 item 8, first half. -/
  readyIffNoError : s.mode = .ready ↔ s.errCode = 0
  /-- R42 item 8, second half. -/
  noReportWithoutError : s.errCode = 0 → s.errStage = 0 ∧ s.errFrame = 0
  /-- R42 item 9, ERR_FRAME. -/
  errFrameBound : s.errFrame.toNat ≤ s.frameIdx.toNat
  /-- R6, R42 item 9: the bound every length rests on. -/
  capBound : s.rawCap ≤ 2 ^ 26
  /-- R231, R233: a recorded error is one of the seven, and MODE is the one it enters. -/
  modeOfError : s.errCode = 0 ∨ ∃ e : ErrorKind, s.errCode = e.code ∧ s.mode = e.modeAfter
  /-- R233, R234: stage codes 5 and above are never produced. -/
  stageBound : s.errStage.toNat ≤ 4
  /-- R39: with no capture, both probe registers hold 0. -/
  noCapture : s.probeV = false → s.probeRe = 0 ∧ s.probeIm = 0

/-- R42 item 5, second half: every valid buffer derives from the one resident frame. While RAW is resident, T0 holds its
deinterleaved elements and T1 a permutation of them; CF is covered by `Invariants.cfFromRaw`. After FRAME only T1 is left (R181). -/
structure OneFrame (s : State) : Prop where
  /-- T0 is the ComplexFrame of the resident RAW. -/
  t0FromRaw : s.t0.valid = true → s.raw.valid = true ∧ s.raw.len.toNat % 4 = 0
    ∧ s.t0.len.toNat = s.raw.len.toNat / 2 ∧ ∀ n < s.t0.len.toNat, s.t0.get? n = deintElement s.raw n
  /-- T1 is the ComplexFrame of the resident RAW, permuted under some shape. -/
  t1FromRaw : s.t1.valid = true → s.raw.valid = true → s.raw.len.toNat % 4 = 0
    ∧ s.t1.len.toNat = s.raw.len.toNat / 2
    ∧ ∃ S : Shape, s.t1Shape = S.permuted ∧ ∀ n < s.t1.len.toNat, s.t1.get? n = deintElement s.raw (permSource S n)

end Sys2Proof.Machine
end

