-- ==== Sys2Proof/Certificates/Slice0/Obligations.lean ====
section
/-! DEFINITION. The statements for the provers. Each docstring names the rules of spec/ it formalises. Where a statement
speaks of a state in which a buffer is to be read, its premise is the canonical form of that buffer (R37, R38) or `Invariants` (R42);
that `Invariants` holds at reset and is kept by every step are statements of their own. -/

open Sys2Proof Sys2Proof.Machine

/-! ### Encoding -/

/-- R91, R92 on written-out words: the eight words of the opcode map decode to their commands; the first unassigned opcode and a
word with a nonzero upper bit do not decode. -/
def Obligations.WrittenWordsDecode : Prop :=
  decode 0x00000000#32 = .ok .nop ∧ decode 0x00000001#32 = .ok .load ∧ decode 0x00000002#32 = .ok .deint
  ∧ decode 0x00000003#32 = .ok .reshape ∧ decode 0x00000004#32 = .ok .permute ∧ decode 0x00000005#32 = .ok .frame
  ∧ decode 0x00000006#32 = .ok .probe ∧ decode 0x00000007#32 = .ok .errclr
  ∧ decode 0x00000008#32 = .error .opcodeUnassigned ∧ decode 0x00000105#32 = .error .zeroFieldNotZero

/-- R91: a word selects a command exactly when the whole word equals the match value. -/
def Obligations.OpcodeMapIsExact : Prop :=
  ∀ c : Word,
    (decode c = .ok .nop ↔ c = 0x00000000#32) ∧ (decode c = .ok .load ↔ c = 0x00000001#32)
    ∧ (decode c = .ok .deint ↔ c = 0x00000002#32) ∧ (decode c = .ok .reshape ↔ c = 0x00000003#32)
    ∧ (decode c = .ok .permute ↔ c = 0x00000004#32) ∧ (decode c = .ok .frame ↔ c = 0x00000005#32)
    ∧ (decode c = .ok .probe ↔ c = 0x00000006#32) ∧ (decode c = .ok .errclr ↔ c = 0x00000007#32)

/-- R90, R91: decode and encode agree, in both directions. -/
def Obligations.DecodeInvertsEncode : Prop :=
  (∀ i : Instr, decode (encode i) = .ok i) ∧ (∀ (c : Word) (i : Instr), decode c = .ok i → encode i = c)

/-- R92: exactly the words with a nonzero upper field or an opcode of 0x08 and above, that is, exactly the words of no command, are
illegal; written to CMD in READY one raises
IllegalCommand at stage 0, in another MODE it is discarded. -/
def Obligations.IllegalWordsRaiseOrAreDiscarded : Prop :=
  ∀ c : Word,
    ((∃ e, decode c = .error e) ↔ (c.extractLsb' 8 24 ≠ 0#24 ∨ 0x08 ≤ (c.extractLsb' 0 8).toNat))
    ∧ ((∃ e, decode c = .error e) ↔ ∀ i : Instr, c ≠ encode i)
    ∧ ∀ (s : State) (rest : List Input), s.inputs = .memWrite 0 c :: rest →
        (c.extractLsb' 8 24 ≠ 0#24 ∨ 0x08 ≤ (c.extractLsb' 0 8).toNat) →
        (s.mode = .ready → step s = .next { s with
          inputs := rest, reply := none, errCode := 7, errStage := 0, errFrame := s.frameIdx, mode := .error })
        ∧ (s.mode ≠ .ready → step s = .next { s with inputs := rest, reply := none })

/-! ### The step -/

/-- R22, R40, R90: a step on a write of a legal word to CMD is the decoded command's meaning, at the state with that event taken
from the queue (the queue of the host's events is the model's form of R61: log 2). The second clause is about `withFetchWord`, which is the
model's choice and no rule of the spec (log 3: it places the write at the head of the queue): the step right after it is that command. -/
def Obligations.StepRunsTheDecodedCommand : Prop :=
  (∀ (s : State) (c : Word) (rest : List Input) (i : Instr),
    s.inputs = .memWrite 0 c :: rest → decode c = .ok i → i.wf = true ∧ step s = exec i { s with inputs := rest, reply := none })
  ∧ (∀ (s : State) (w : Nat) (i : Instr),
    decodeTableWord 32 w = some i → step (s.withFetchWord 32 w) = exec i { s with reply := none })

/-- R271, and the model's reading of it for every state (log 13): with no event pending the block waits and nothing changes. -/
def Obligations.StepWaitsWithoutInput : Prop :=
  ∀ s : State, s.inputs = [] → step s = .next s

/-- Every step takes exactly the first pending event and keeps the parameter RAW_CAP (logs 1, 2: the model's form of R6, R61). -/
def Obligations.StepTakesOneInputAndKeepsRawCap : Prop :=
  ∀ s t : State, step s = .next t → t.inputs = s.inputs.tail ∧ t.rawCap = s.rawCap

/-! ### Control commands -/

/-- R210: NOP, in every state of every MODE. -/
def Obligations.NopChangesNothing : Prop :=
  decode 0x00000000#32 = .ok .nop ∧ ∀ s : State, exec .nop s = .next s

/-- R212: ERRCLR in each MODE; where it executes in ERROR it changes MODE and the three error registers and nothing else. -/
def Obligations.ErrclrReturnsFromError : Prop :=
  decode 0x00000007#32 = .ok .errclr
  ∧ ∀ s : State,
    (s.mode = .error →
      exec .errclr s = .next { s with errCode := 0, errStage := 0, errFrame := 0, mode := .ready })
    ∧ (s.mode = .ready → exec .errclr s = .next s)
    ∧ (s.mode = .halted → exec .errclr s = .next s)

/-- R284: in ERROR every word but ERRCLR's, and in HALTED every word, legal or not, is discarded without any record. -/
def Obligations.DiscardedCommandsLeaveNoTrace : Prop :=
  ∀ (s : State) (c : Word) (rest : List Input), s.inputs = .memWrite 0 c :: rest →
    ((s.mode = .error ∧ c ≠ 0x00000007#32) ∨ s.mode = .halted) →
    step s = .next { s with inputs := rest, reply := none }

/-- R211: PROBE in READY reads element `[PIDX0][PIDX1][PIDX2][PIDX3]` of T1 when `PROBE_SEL[0] = 0`, of T0 when it is 1. With the
tensor invalid or an index out of range the capture is cleared; otherwise it is the element. Nothing else changes, and PROBE never
raises. In another MODE it is discarded. The premises on the tensor are R37 and R42 item 4. -/
def Obligations.ProbeCapturesTheAddressedElement : Prop :=
  decode 0x00000006#32 = .ok .probe
  ∧ ∀ (s : State) (B : Buffer ComplexSample) (S : Shape),
    (B, S) = (if s.probeSel.getLsbD 0 then (s.t0, s.t0Shape) else (s.t1, s.t1Shape)) →
    (s.mode ≠ .ready → exec .probe s = .next s)
    ∧ (s.mode = .ready →
        (B.valid = false ∨ S.n0.toNat ≤ s.pidx0.toNat ∨ S.n1.toNat ≤ s.pidx1.toNat ∨ S.n2.toNat ≤ s.pidx2.toNat
          ∨ S.n3.toNat ≤ s.pidx3.toNat) →
        exec .probe s = .next { s with probeRe := 0, probeIm := 0, probeV := false })
    ∧ (s.mode = .ready → B.valid = true → B.data.length = B.len.toNat → S.card = B.len.toNat →
        s.pidx0.toNat < S.n0.toNat → s.pidx1.toNat < S.n1.toNat → s.pidx2.toNat < S.n2.toNat →
        s.pidx3.toNat < S.n3.toNat →
        ∃ x : ComplexSample,
          B.data[((s.pidx0.toNat * S.n1.toNat + s.pidx1.toNat) * S.n2.toNat + s.pidx2.toNat) * S.n3.toNat
              + s.pidx3.toNat]? = some x
          ∧ exec .probe s = .next { s with probeRe := x.re, probeIm := x.im, probeV := true })

/-! ### The frame source and LOAD -/

/-- R71: the three answers of `SrcRead`, the bytes removed with each, and that nothing else of the state is touched (but the
model's own record of the environment's choice, log 5). -/
def Obligations.SrcReadAnswers : Prop :=
  ∀ (n : Nat) (s : State),
    (n = 0 → srcRead n s = (.bytes [], s))
    ∧ (0 < n → s.sourceReadable = false →
        ∃ t, srcRead n s = (.unavailable, t) ∧ t = { s with srcPlan := t.srcPlan, free := t.free })
    ∧ (0 < n → s.sourceReadable = true → n ≤ s.rem.length →
        ∃ t, srcRead n s = (.bytes (s.rem.take n), t)
          ∧ t = { s with rem := s.rem.drop n, srcPlan := t.srcPlan, free := t.free })
    ∧ (0 < n → s.sourceReadable = true → s.rem.length < n →
        ∃ t, srcRead n s = (.short, t) ∧ t = { s with rem := [], srcPlan := t.srcPlan, free := t.free })

/-- R180: LOAD. The DONE test; the three errors in their order, each after the release of all four buffers and of the probe
capture; and the frame read: sample `n` of RAW is `i16` of bytes `2n` and `2n+1`, whose value `SamplesAreLittleEndian` states. -/
def Obligations.LoadReadsOneFrame : Prop :=
  decode 0x00000001#32 = .ok .load
  ∧ ∀ s : State,
    (s.mode ≠ .ready → exec .load s = .next s)
    ∧ (s.mode = .ready → s.cfgTotal.toNat ≤ s.frameIdx.toNat → exec .load s = .next s)
    ∧ (s.mode = .ready → s.frameIdx.toNat < s.cfgTotal.toNat → s.rawCap < s.cfgF.toNat →
        exec .load s = .next { clearProbe (releaseAll s) with
          errCode := 5, errStage := 1, errFrame := s.frameIdx, mode := .halted })
    ∧ (s.mode = .ready → s.frameIdx.toNat < s.cfgTotal.toNat → s.cfgF.toNat ≤ s.rawCap → 0 < s.cfgF.toNat →
        s.sourceReadable = false →
        ∃ t, exec .load s = .next t ∧ t = { clearProbe (releaseAll s) with
          errCode := 4, errStage := 1, errFrame := s.frameIdx, mode := .halted, srcPlan := t.srcPlan, free := t.free })
    ∧ (s.mode = .ready → s.frameIdx.toNat < s.cfgTotal.toNat → s.cfgF.toNat ≤ s.rawCap →
        s.sourceReadable = true → s.rem.length < 2 * s.cfgF.toNat →
        ∃ t, exec .load s = .next t ∧ t = { clearProbe (releaseAll s) with
          errCode := 3, errStage := 1, errFrame := s.frameIdx, mode := .halted, rem := [],
          srcPlan := t.srcPlan, free := t.free })
    ∧ (s.mode = .ready → s.frameIdx.toNat < s.cfgTotal.toNat → s.cfgF.toNat ≤ s.rawCap →
        (s.cfgF.toNat = 0 ∨ (s.sourceReadable = true ∧ 2 * s.cfgF.toNat ≤ s.rem.length)) →
        ∃ t, exec .load s = .next t
          ∧ t.raw.valid = true ∧ t.raw.len = s.cfgF
          ∧ (∀ n < s.cfgF.toNat, t.raw.get? n = some (i16 (s.rem.getD (2 * n) 0) (s.rem.getD (2 * n + 1) 0)))
          ∧ t.frameIdx.toNat = s.frameIdx.toNat + 1
          ∧ t = { clearProbe (releaseAll s) with
              raw := t.raw, frameIdx := t.frameIdx, rem := s.rem.drop (2 * s.cfgF.toNat),
              srcPlan := t.srcPlan, free := t.free })

/-! ### The Deinterleaver -/

/-- R121: DEINT. StaleOperand changes no buffer; InvalidFrameSize leaves CF released; otherwise each quartet `q` gives elements `2q` and
`2q+1` by the table (0, 2, 1, 3), and nothing but CF changes. (The index of the resident frame, `FRAME_IDX - 1`, exists where
`FRAME_IDX >= 1`, R42 item 5.) -/
def Obligations.DeintDeinterleavesByTheTable : Prop :=
  decode 0x00000002#32 = .ok .deint
  ∧ ∀ s : State,
    (s.mode ≠ .ready → exec .deint s = .next s)
    ∧ (s.mode = .ready → s.raw.valid = false →
        exec .deint s = .next { s with errCode := 6, errStage := 2, errFrame := s.frameIdx, mode := .error })
    ∧ (s.mode = .ready → s.raw.valid = true → s.raw.len.toNat % 4 ≠ 0 →
        ∃ t, exec .deint s = .next t
          ∧ t = { releaseCf s with errCode := 1, errStage := 2, errFrame := t.errFrame, mode := .error }
          ∧ (1 ≤ s.frameIdx.toNat → t.errFrame.toNat = s.frameIdx.toNat - 1))
    ∧ (s.mode = .ready → s.raw.valid = true → s.raw.len.toNat % 4 = 0 → s.raw.data.length = s.raw.len.toNat →
        ∃ t, exec .deint s = .next t
          ∧ t.cf.valid = true ∧ t.cf.len.toNat = 2 * (s.raw.len.toNat / 4)
          ∧ (∀ q < s.raw.len.toNat / 4,
              t.cf.get? (2 * q) = some
                { re := f32OfI16 (s.raw.data.getD (4 * q) 0), im := f32OfI16 (s.raw.data.getD (4 * q + 2) 0) }
              ∧ t.cf.get? (2 * q + 1) = some
                { re := f32OfI16 (s.raw.data.getD (4 * q + 1) 0), im := f32OfI16 (s.raw.data.getD (4 * q + 3) 0) })
          ∧ t = { s with cf := t.cf })

/-- R122: `f32_of_i16` is exact. For a nonzero sample the pattern has the sample's sign, an exponent field of a normal number, and the
value `(2^23 + frac) * 2^(E - 127) = |v| * 2^23`, and it is the pattern of the rule's formula; zero gives +0; two samples never give
one pattern. -/
def Obligations.ConversionIsExactAndInjective : Prop :=
  f32OfI16 0 = 0
  ∧ (∀ v : Sample, v ≠ 0 →
      ((f32OfI16 v).getLsbD 31 = true ↔ v.toInt < 0)
      ∧ 127 ≤ ((f32OfI16 v).extractLsb' 23 8).toNat ∧ ((f32OfI16 v).extractLsb' 23 8).toNat ≤ 142
      ∧ (2 ^ 23 + ((f32OfI16 v).extractLsb' 0 23).toNat) * 2 ^ (((f32OfI16 v).extractLsb' 23 8).toNat - 127)
          = v.toInt.natAbs * 2 ^ 23)
  ∧ (∀ (v : Sample) (e : Nat), 2 ^ e ≤ v.toInt.natAbs → v.toInt.natAbs < 2 ^ (e + 1) →
      (f32OfI16 v).toNat = (if v.toInt < 0 then 2 ^ 31 else 0) + (e + 127) * 2 ^ 23
        + (v.toInt.natAbs - 2 ^ e) * 2 ^ (23 - e))
  ∧ (∀ v w : Sample, f32OfI16 v = f32OfI16 w → v = w)

/-- R123 item 3: every raw sample is used exactly once: sample `x = 4q + t` is the real (t < 2) or imaginary part of element
`2q + (t mod 2)`, and DEINT loses no information: two frames of one length with the same CF are the same frame. -/
def Obligations.DeintLosesNoInformation : Prop :=
  (∀ s t : State, s.mode = .ready → s.raw.valid = true → s.raw.data.length = s.raw.len.toNat →
    s.raw.len.toNat % 4 = 0 → exec .deint s = .next t →
    ∀ x < s.raw.len.toNat, ∃ e : ComplexSample,
      t.cf.get? (2 * (x / 4) + x % 4 % 2) = some e
      ∧ (if x % 4 < 2 then e.re else e.im) = f32OfI16 (s.raw.data.getD x 0))
  ∧ (∀ s s' t t' : State, s.mode = .ready → s'.mode = .ready → s.raw.wf = true → s'.raw.wf = true →
    s.raw.valid = true → s'.raw.valid = true → s.raw.len.toNat % 4 = 0 → s'.raw.len = s.raw.len →
    exec .deint s = .next t → exec .deint s' = .next t' → t.cf = t'.cf → s.raw = s'.raw)

/-! ### The Tensor Builder -/

/-- R140: RESHAPE. StaleOperand changes no buffer; ShapeMismatch, a zero product included, leaves T0 released; otherwise T0 is a copy of
CF under the shape `(N0, N1, N2, L / P)`, the product taken without wrap-around, and nothing else changes. -/
def Obligations.ReshapeCopiesUnderTheShape : Prop :=
  decode 0x00000003#32 = .ok .reshape
  ∧ ∀ s : State,
    (s.mode ≠ .ready → exec .reshape s = .next s)
    ∧ (s.mode = .ready → s.cf.valid = false →
        exec .reshape s = .next { s with errCode := 6, errStage := 3, errFrame := s.frameIdx, mode := .error })
    ∧ (s.mode = .ready → s.cf.valid = true →
        (s.cfgN0.toNat * s.cfgN1.toNat * s.cfgN2.toNat = 0
          ∨ s.cf.len.toNat % (s.cfgN0.toNat * s.cfgN1.toNat * s.cfgN2.toNat) ≠ 0) →
        ∃ t, exec .reshape s = .next t
          ∧ t = { releaseT0 s with errCode := 2, errStage := 3, errFrame := t.errFrame, mode := .error }
          ∧ (1 ≤ s.frameIdx.toNat → t.errFrame.toNat = s.frameIdx.toNat - 1))
    ∧ (s.mode = .ready → s.cf.valid = true → s.cf.data.length = s.cf.len.toNat →
        s.cfgN0.toNat * s.cfgN1.toNat * s.cfgN2.toNat ≠ 0 →
        s.cf.len.toNat % (s.cfgN0.toNat * s.cfgN1.toNat * s.cfgN2.toNat) = 0 →
        ∃ t, exec .reshape s = .next t
          ∧ t.t0.valid = true ∧ t.t0.len = s.cf.len
          ∧ t.t0Shape.n0 = s.cfgN0 ∧ t.t0Shape.n1 = s.cfgN1 ∧ t.t0Shape.n2 = s.cfgN2
          ∧ t.t0Shape.n3.toNat = s.cf.len.toNat / (s.cfgN0.toNat * s.cfgN1.toNat * s.cfgN2.toNat)
          ∧ (∀ n < s.cf.len.toNat, t.t0.get? n = some (s.cf.data.getD n { re := 0, im := 0 }))
          ∧ t = { s with t0 := t.t0, t0Shape := t.t0Shape })

/-- R141, R142 item 1: after a successful RESHAPE, element `[i][j][k][l]` of T0 is
`ComplexFrame[i*N1*N2*d0 + j*N2*d0 + k*d0 + l]`, and the shape's product is the length of the ComplexFrame. -/
def Obligations.ReshapeIndexMapping : Prop :=
  ∀ s t : State, s.mode = .ready → s.cf.wf = true → exec .reshape s = .next t → t.mode = .ready →
    t.t0Shape.card = t.t0.len.toNat ∧ t.t0.len = s.cf.len
    ∧ ∀ i j k l d0 : Nat, d0 = s.cf.len.toNat / (s.cfgN0.toNat * s.cfgN1.toNat * s.cfgN2.toNat) →
        i < s.cfgN0.toNat → j < s.cfgN1.toNat → k < s.cfgN2.toNat → l < d0 →
        ∃ x : ComplexSample,
          t.t0.get? (lin t.t0Shape i j k l) = some x
          ∧ s.cf.get? (i * s.cfgN1.toNat * s.cfgN2.toNat * d0 + j * s.cfgN2.toNat * d0 + k * d0 + l) = some x

/-- R73: `lin` maps the in-range tuples one to one onto `[0, S0*S1*S2*S3)`, and the formulas of R73 invert it. -/
def Obligations.LinearisationIsABijection : Prop :=
  ∀ S : Shape,
    (∀ i j k l : Nat, S.inRange i j k l = true → lin S i j k l < S.card ∧ unlin S (lin S i j k l) = (i, j, k, l))
    ∧ (∀ n : Nat, n < S.card →
        ∃ i j k l : Nat, unlin S n = (i, j, k, l) ∧ S.inRange i j k l = true ∧ lin S i j k l = n)

/-! ### The Axis Permuter -/

/-- R160: PERMUTE. StaleOperand changes no buffer; ShapeMismatch leaves T0 and T1 released; otherwise
`T1[i][j][k][l] = T0[k][i][j][l]` over the shape `(S1, S2, S0, S3)`, T0 is released, and nothing else changes. -/
def Obligations.PermuteTransposesAndConsumes : Prop :=
  decode 0x00000004#32 = .ok .permute
  ∧ ∀ s : State,
    (s.mode ≠ .ready → exec .permute s = .next s)
    ∧ (s.mode = .ready → s.t0.valid = false →
        exec .permute s = .next { s with errCode := 6, errStage := 4, errFrame := s.frameIdx, mode := .error })
    ∧ (s.mode = .ready → s.t0.valid = true → s.t0Shape.card ≠ s.t0.len.toNat →
        ∃ t, exec .permute s = .next t
          ∧ t = { releaseT0 (releaseT1 s) with errCode := 2, errStage := 4, errFrame := t.errFrame, mode := .error }
          ∧ (1 ≤ s.frameIdx.toNat → t.errFrame.toNat = s.frameIdx.toNat - 1))
    ∧ (s.mode = .ready → s.t0.valid = true → s.t0.data.length = s.t0.len.toNat → s.t0Shape.card = s.t0.len.toNat →
        ∃ t, exec .permute s = .next t
          ∧ t.t1.valid = true ∧ t.t1.len = s.t0.len
          ∧ t.t1Shape = { n0 := s.t0Shape.n1, n1 := s.t0Shape.n2, n2 := s.t0Shape.n0, n3 := s.t0Shape.n3 }
          ∧ (∀ i j k l : Nat, i < s.t0Shape.n1.toNat → j < s.t0Shape.n2.toNat → k < s.t0Shape.n0.toNat →
              l < s.t0Shape.n3.toNat →
              ∃ x : ComplexSample,
                t.t1.get? (lin t.t1Shape i j k l) = some x ∧ s.t0.get? (lin s.t0Shape k i j l) = some x)
          ∧ t = { releaseT0 s with t1 := t.t1, t1Shape := t.t1Shape })

/-- R161: the flat form of the reordering, and that it is a bijection of `[0, L)` onto itself. -/
def Obligations.PermutationOfFlatStorage : Prop :=
  ∀ S : Shape,
    (∀ i j k l : Nat, i < S.n1.toNat → j < S.n2.toNat → k < S.n0.toNat → l < S.n3.toNat →
      permSource S (((i * S.n2.toNat + j) * S.n0.toNat + k) * S.n3.toNat + l)
        = ((k * S.n1.toNat + i) * S.n2.toNat + j) * S.n3.toNat + l)
    ∧ (∀ m < S.card, permSource S m < S.card)
    ∧ (∀ m < S.card, ∀ m' < S.card, permSource S m = permSource S m' → m = m')
    ∧ (∀ n < S.card, ∃ m < S.card, permSource S m = n)

/-- R164 items 2 to 4: after a successful PERMUTE the multiset of elements is unchanged, only positions change; the shape's
product is unchanged; T0 is released. -/
def Obligations.PermuteKeepsTheMultiset : Prop :=
  ∀ s t : State, s.mode = .ready → s.t0.wf = true → exec .permute s = .next t → t.mode = .ready →
    t.t1.data.Perm s.t0.data
    ∧ t.t1Shape.card = t.t1.len.toNat ∧ t.t1Shape.card = s.t0Shape.card
    ∧ t.t0 = .released ∧ t.t0Shape = .zero

/-- R278: after a permute step that found T0 valid, T0 is gone: a second PERMUTE raises StaleOperand and changes no buffer, PROBE with
`PROBE_SEL[0] = 1` reports no capture, and every read of T0's window finds no value. -/
def Obligations.PermutedTensorIsUnreachable : Prop :=
  ∀ s t : State, s.mode = .ready → s.t0.valid = true → exec .permute s = .next t → t.mode = .ready →
    exec .permute t = .next { t with errCode := 6, errStage := 4, errFrame := t.frameIdx, mode := .error }
    ∧ (∀ v : Word, v.getLsbD 0 = true →
        exec .probe { t with probeSel := v }
          = .next { t with probeSel := v, probeRe := 0, probeIm := 0, probeV := false })
    ∧ (∀ w < 2 ^ 26, ∀ rest : List Input,
        step { t with inputs := .memRead (BitVec.ofNat 30 (0x0C000000 + w)) :: rest } = .fault .windowNoValue)

/-! ### The Frame Pipeline -/

/-- R181 steps 1 and 2: FRAME is discarded outside READY and does nothing at its DONE test; an error of the frame read is recorded at
stage 1 with all four buffers released and the probe capture cleared, MODE HALTED. -/
def Obligations.FrameReadErrorsOfFrame : Prop :=
  decode 0x00000005#32 = .ok .frame
  ∧ ∀ s : State,
    (s.mode ≠ .ready → exec .frame s = .next s)
    ∧ (s.mode = .ready → s.cfgTotal.toNat ≤ s.frameIdx.toNat → exec .frame s = .next s)
    ∧ (s.mode = .ready → s.frameIdx.toNat < s.cfgTotal.toNat → s.rawCap < s.cfgF.toNat →
        exec .frame s = .next { clearProbe (releaseAll s) with
          errCode := 5, errStage := 1, errFrame := s.frameIdx, mode := .halted })
    ∧ (s.mode = .ready → s.frameIdx.toNat < s.cfgTotal.toNat → s.cfgF.toNat ≤ s.rawCap → 0 < s.cfgF.toNat →
        s.sourceReadable = false →
        ∃ t, exec .frame s = .next t ∧ t = { clearProbe (releaseAll s) with
          errCode := 4, errStage := 1, errFrame := s.frameIdx, mode := .halted, srcPlan := t.srcPlan, free := t.free })
    ∧ (s.mode = .ready → s.frameIdx.toNat < s.cfgTotal.toNat → s.cfgF.toNat ≤ s.rawCap →
        s.sourceReadable = true → s.rem.length < 2 * s.cfgF.toNat →
        ∃ t, exec .frame s = .next t ∧ t = { clearProbe (releaseAll s) with
          errCode := 3, errStage := 1, errFrame := s.frameIdx, mode := .halted, rem := [],
          srcPlan := t.srcPlan, free := t.free })

/-- R181 steps 3 and 4: a frame that was read and whose length is not a multiple of 4 is InvalidFrameSize at stage 2, whatever the geometry;
one whose `F/2` elements do not fit the geometry is ShapeMismatch at stage 3. The frame counts, its bytes are consumed, all four
buffers are released, and the error names the index of the frame just read. -/
def Obligations.MalformedFramesAreReportedAndReleased : Prop :=
  ∀ (s : State) (P : Nat), P = s.cfgN0.toNat * s.cfgN1.toNat * s.cfgN2.toNat →
    s.mode = .ready → s.frameIdx.toNat < s.cfgTotal.toNat → s.cfgF.toNat ≤ s.rawCap →
    (s.cfgF.toNat = 0 ∨ (s.sourceReadable = true ∧ 2 * s.cfgF.toNat ≤ s.rem.length)) →
    (s.cfgF.toNat % 4 ≠ 0 →
      ∃ t, exec .frame s = .next t ∧ t.frameIdx.toNat = s.frameIdx.toNat + 1
        ∧ t = { clearProbe (releaseAll s) with
            errCode := 1, errStage := 2, errFrame := s.frameIdx, mode := .error, frameIdx := t.frameIdx,
            rem := s.rem.drop (2 * s.cfgF.toNat), srcPlan := t.srcPlan, free := t.free })
    ∧ (s.cfgF.toNat % 4 = 0 → (P = 0 ∨ s.cfgF.toNat / 2 % P ≠ 0) →
      ∃ t, exec .frame s = .next t ∧ t.frameIdx.toNat = s.frameIdx.toNat + 1
        ∧ t = { clearProbe (releaseAll s) with
            errCode := 2, errStage := 3, errFrame := s.frameIdx, mode := .error, frameIdx := t.frameIdx,
            rem := s.rem.drop (2 * s.cfgF.toNat), srcPlan := t.srcPlan, free := t.free })

/-- R181, R164 item 5: a well-sized frame that the source can deliver is processed to the end. T1 is a valid tensor of shape
`(N1, N2, N0, d0)` whose element `[i][j][k][l]` is, for `n` the flat index `((k*N1 + i)*N2 + j)*d0 + l` of the pre-transpose tensor,
`q = n / 2` and `r = n mod 2`, the pair of the converted samples `4q + r` and `4q + 2 + r` of the source; RAW, CF and T0 are released,
and nothing else changes but the frame counter, the probe capture and the source. -/
def Obligations.FrameDeliversTheTransposedFrame : Prop :=
  ∀ (s : State) (P d0 : Nat), P = s.cfgN0.toNat * s.cfgN1.toNat * s.cfgN2.toNat → d0 = s.cfgF.toNat / 2 / P →
    s.mode = .ready → s.frameIdx.toNat < s.cfgTotal.toNat → s.cfgF.toNat ≤ s.rawCap →
    (s.cfgF.toNat = 0 ∨ (s.sourceReadable = true ∧ 2 * s.cfgF.toNat ≤ s.rem.length)) →
    s.cfgF.toNat % 4 = 0 → P ≠ 0 → s.cfgF.toNat / 2 % P = 0 →
    ∃ t, exec .frame s = .next t ∧ t.frameIdx.toNat = s.frameIdx.toNat + 1
      ∧ t.t1.valid = true ∧ t.t1.len.toNat = s.cfgF.toNat / 2
      ∧ t.t1Shape.n0 = s.cfgN1 ∧ t.t1Shape.n1 = s.cfgN2 ∧ t.t1Shape.n2 = s.cfgN0 ∧ t.t1Shape.n3.toNat = d0
      ∧ (∀ i j k l n : Nat, i < s.cfgN1.toNat → j < s.cfgN2.toNat → k < s.cfgN0.toNat → l < d0 →
          n = ((k * s.cfgN1.toNat + i) * s.cfgN2.toNat + j) * d0 + l →
          t.t1.get? (((i * s.cfgN2.toNat + j) * s.cfgN0.toNat + k) * d0 + l) = some
            { re := f32OfI16 (i16 (s.rem.getD (2 * (4 * (n / 2) + n % 2)) 0)
                (s.rem.getD (2 * (4 * (n / 2) + n % 2) + 1) 0))
              im := f32OfI16 (i16 (s.rem.getD (2 * (4 * (n / 2) + 2 + n % 2)) 0)
                (s.rem.getD (2 * (4 * (n / 2) + 2 + n % 2) + 1) 0)) })
      ∧ t = { clearProbe (releaseAll s) with
          t1 := t.t1, t1Shape := t.t1Shape, frameIdx := t.frameIdx,
          rem := s.rem.drop (2 * s.cfgF.toNat), srcPlan := t.srcPlan, free := t.free }

/-- R181 (corner cases): FRAME equals the sequence LOAD, DEINT, RESHAPE, PERMUTE followed by the release of RAW and CF, where none of
the four raises. -/
def Obligations.FrameEqualsTheFourCommands : Prop :=
  ∀ s s1 s2 s3 s4 : State, s.mode = .ready → s.frameIdx.toNat < s.cfgTotal.toNat →
    exec .load s = .next s1 → s1.mode = .ready →
    exec .deint s1 = .next s2 → s2.mode = .ready →
    exec .reshape s2 = .next s3 → s3.mode = .ready →
    exec .permute s3 = .next s4 → s4.mode = .ready →
    exec .frame s = .next { s4 with raw := .released, cf := .released }

/-- R181 (second half of that sentence): where LOAD, DEINT or RESHAPE is the first of the four commands to raise, FRAME ends in the state
that command leaves, all four buffers released: the same error report, the same MODE. (PERMUTE cannot be the first: R163.) -/
def Obligations.FrameReportsTheFirstFailingStep : Prop :=
  ∀ s s1 s2 s3 : State, s.mode = .ready → s.frameIdx.toNat < s.cfgTotal.toNat → exec .load s = .next s1 →
    (s1.mode ≠ .ready → exec .frame s = .next (releaseAll s1))
    ∧ (s1.mode = .ready → exec .deint s1 = .next s2 →
        (s2.mode ≠ .ready → exec .frame s = .next (releaseAll s2))
        ∧ (s2.mode = .ready → exec .reshape s2 = .next s3 →
            (s3.mode ≠ .ready → exec .frame s = .next (releaseAll s3))))

/-- "Data flows strictly one frame at a time, no cross-frame state" (R20, R277): what FRAME delivers depends on the configuration, the
source and RAW_CAP alone, not on any buffer, probe register or frame counter left by what ran before. -/
def Obligations.FramesCarryNoStateAcross : Prop :=
  ∀ s s' t t' : State, s.mode = .ready → s'.mode = .ready →
    s.frameIdx.toNat < s.cfgTotal.toNat → s'.frameIdx.toNat < s'.cfgTotal.toNat →
    s'.cfgF = s.cfgF → s'.cfgN0 = s.cfgN0 → s'.cfgN1 = s.cfgN1 → s'.cfgN2 = s.cfgN2 → s'.rawCap = s.rawCap →
    s'.rem = s.rem → s'.sourceReadable = s.sourceReadable →
    exec .frame s = .next t → exec .frame s' = .next t' →
    t'.raw = t.raw ∧ t'.cf = t.cf ∧ t'.t0 = t.t0 ∧ t'.t0Shape = t.t0Shape ∧ t'.t1 = t.t1 ∧ t'.t1Shape = t.t1Shape
    ∧ t'.rem = t.rem ∧ t'.mode = t.mode ∧ (t.mode ≠ .ready → t'.errCode = t.errCode ∧ t'.errStage = t.errStage)

/-! ### The control port -/

/-- R26: each field of the STATUS view, and its value after reset; a read returns it as it is at that moment, a write is ignored. -/
def Obligations.StatusViewFields : Prop :=
  State.reset.status = 0x00000020#32
  ∧ ∀ s : State,
    s.status.getLsbD 0 = s.raw.valid ∧ s.status.getLsbD 1 = s.cf.valid ∧ s.status.getLsbD 2 = s.t0.valid
    ∧ s.status.getLsbD 3 = s.t1.valid ∧ s.status.getLsbD 4 = s.probeV
    ∧ (s.status.getLsbD 5 = true ↔ s.cfgTotal.toNat ≤ s.frameIdx.toNat)
    ∧ s.status.extractLsb' 6 2 = 0#2
    ∧ (s.status.extractLsb' 8 2).toNat = (match s.mode with | .ready => 0 | .error => 1 | .halted => 2)
    ∧ s.status.extractLsb' 10 22 = 0#22
    ∧ ∀ rest : List Input,
        (s.inputs = .memRead (BitVec.ofNat 30 (0x004 / 4)) :: rest →
          step s = .next { s with inputs := rest, reply := some s.status })
        ∧ ∀ v : Word, s.inputs = .memWrite (BitVec.ofNat 30 (0x004 / 4)) v :: rest →
          step s = .next { s with inputs := rest, reply := none }

/-- R213, R45: a MemRead at a register's byte address returns its current value, in every MODE, and changes nothing else. -/
def Obligations.RegisterReadsReturnTheRegister : Prop :=
  ∀ (s : State) (rest : List Input) (addr : Nat) (v : Word),
    (addr, v) ∈
      [(0x000, 0#32), (0x004, s.status), (0x008, s.errCode), (0x00C, s.errStage), (0x010, s.errFrame),
       (0x014, s.frameIdx), (0x020, s.cfgF), (0x024, s.cfgN0), (0x028, s.cfgN1), (0x02C, s.cfgN2),
       (0x030, s.cfgTotal), (0x040, s.raw.len), (0x044, s.cf.len), (0x048, s.t0.len), (0x04C, s.t1.len),
       (0x050, s.t0Shape.n0), (0x054, s.t0Shape.n1), (0x058, s.t0Shape.n2), (0x05C, s.t0Shape.n3),
       (0x060, s.t1Shape.n0), (0x064, s.t1Shape.n1), (0x068, s.t1Shape.n2), (0x06C, s.t1Shape.n3),
       (0x070, s.probeSel), (0x074, s.pidx0), (0x078, s.pidx1), (0x07C, s.pidx2), (0x080, s.pidx3),
       (0x084, s.probeRe), (0x088, s.probeIm)] →
    s.inputs = .memRead (BitVec.ofNat 30 (addr / 4)) :: rest →
    step s = .next { s with inputs := rest, reply := some v }

/-- R213, R45, R36: a MemWrite stores all 32 bits in a read/write register and is ignored at a read-only one, in every MODE. -/
def Obligations.RegisterWritesStoreOrAreIgnored : Prop :=
  ∀ (s u : State) (rest : List Input) (addr : Nat) (v : Word),
    u = { s with inputs := rest, reply := none } →
    s.inputs = .memWrite (BitVec.ofNat 30 (addr / 4)) v :: rest →
    (∀ t : State, (addr, t) ∈
      [(0x020, { u with cfgF := v }), (0x024, { u with cfgN0 := v }), (0x028, { u with cfgN1 := v }),
       (0x02C, { u with cfgN2 := v }), (0x030, { u with cfgTotal := v }), (0x070, { u with probeSel := v }),
       (0x074, { u with pidx0 := v }), (0x078, { u with pidx1 := v }), (0x07C, { u with pidx2 := v }),
       (0x080, { u with pidx3 := v })] → step s = .next t)
    ∧ (addr ∈ [0x004, 0x008, 0x00C, 0x010, 0x014, 0x040, 0x044, 0x048, 0x04C, 0x050, 0x054, 0x058, 0x05C,
        0x060, 0x064, 0x068, 0x06C, 0x084, 0x088] → step s = .next u)

/-- R63: a read of word `w` of the RAW window, with RAW valid and `w` below its length, returns the sample sign-extended. -/
def Obligations.RawWindowSignExtends : Prop :=
  ∀ (s : State) (rest : List Input) (w : Nat), Invariants s → s.raw.valid = true → w < s.raw.len.toNat →
    s.inputs = .memRead (BitVec.ofNat 30 (0x04000000 + w)) :: rest →
    ∃ (x : Sample) (v : Word), s.raw.data[w]? = some x ∧ v.toInt = x.toInt
      ∧ step s = .next { s with inputs := rest, reply := some v }

/-- R64: the CF, T0 and T1 windows: element `e` at words `2e` (real part) and `2e+1` (imaginary part). -/
def Obligations.ComplexWindowsReadElements : Prop :=
  ∀ (s : State) (rest : List Input) (e base : Nat) (B : Buffer ComplexSample), Invariants s →
    (base, B) ∈ [(0x08000000, s.cf), (0x0C000000, s.t0), (0x10000000, s.t1)] → B.valid = true → e < B.len.toNat →
    ∃ x : ComplexSample, B.data[e]? = some x
      ∧ (s.inputs = .memRead (BitVec.ofNat 30 (base + 2 * e)) :: rest →
          step s = .next { s with inputs := rest, reply := some x.re })
      ∧ (s.inputs = .memRead (BitVec.ofNat 30 (base + 2 * e + 1)) :: rest →
          step s = .next { s with inputs := rest, reply := some x.im })

/-- R38, R65, U1: a window read whose buffer is invalid, whose index is at or above the length, or whose word is beyond the extent
stops the model as a fault of the host's program; a write anywhere in a window region is ignored. -/
def Obligations.WindowAccessesWithoutValue : Prop :=
  ∀ (s : State) (rest : List Input) (w : Nat), w < 2 ^ 26 →
    ((s.raw.valid = false ∨ s.raw.len.toNat ≤ w ∨ s.rawCap ≤ w) →
      s.inputs = .memRead (BitVec.ofNat 30 (0x04000000 + w)) :: rest → step s = .fault .windowNoValue)
    ∧ (∀ (base : Nat) (B : Buffer ComplexSample),
        (base, B) ∈ [(0x08000000, s.cf), (0x0C000000, s.t0), (0x10000000, s.t1)] →
        (B.valid = false ∨ B.len.toNat ≤ w / 2 ∨ 2 * (s.rawCap / 2) ≤ w) →
        s.inputs = .memRead (BitVec.ofNat 30 (base + w)) :: rest → step s = .fault .windowNoValue)
    ∧ (∀ (base : Nat) (v : Word), base ∈ [0x04000000, 0x08000000, 0x0C000000, 0x10000000] →
        s.inputs = .memWrite (BitVec.ofNat 30 (base + w)) v :: rest →
        step s = .next { s with inputs := rest, reply := none })

/-- R66: the unassigned addresses: a write is ignored; a read returns some word and changes no state of the block (`free` is the model's
own count of free values, log 6). -/
def Obligations.UnassignedAddresses : Prop :=
  ∀ (s : State) (rest : List Input) (a : WordIndex),
    (4 * a.toNat = 0x18 ∨ 4 * a.toNat = 0x1C ∨ (0x34 ≤ 4 * a.toNat ∧ 4 * a.toNat ≤ 0x3C)
      ∨ (0x8C ≤ 4 * a.toNat ∧ 4 * a.toNat ≤ 0x0FFFFFFC) ∨ 0x50000000 ≤ 4 * a.toNat) →
    (∀ v : Word, s.inputs = .memWrite a v :: rest → step s = .next { s with inputs := rest, reply := none })
    ∧ (s.inputs = .memRead a :: rest →
        ∃ v : Word, step s = .next { s with inputs := rest, reply := some v, free := s.free + 1 })

/-- R70: no MemRead has a side effect: whatever is read, the block's state and the source are as they were. -/
def Obligations.ReadsHaveNoSideEffect : Prop :=
  ∀ (s t : State) (a : WordIndex) (rest : List Input), s.inputs = .memRead a :: rest → step s = .next t →
    t = { s with inputs := rest, reply := t.reply, free := t.free }

/-! ### Reset -/

/-- R270, R43, R272: the reset event gives every register and flag of the block its reset value and does not touch the frame source; the
host's further events and the parameter stay. -/
def Obligations.ResetEventRestoresTheTable : Prop :=
  ∀ (s : State) (rest : List Input), s.inputs = .reset :: rest →
    step s = .next {
      cfgF := 0, cfgN0 := 128, cfgN1 := 3, cfgN2 := 4, cfgTotal := 0, mode := .ready,
      errCode := 0, errStage := 0, errFrame := 0, frameIdx := 0,
      raw := { valid := false, len := 0, data := [] }, cf := { valid := false, len := 0, data := [] },
      t0 := { valid := false, len := 0, data := [] }, t0Shape := { n0 := 0, n1 := 0, n2 := 0, n3 := 0 },
      t1 := { valid := false, len := 0, data := [] }, t1Shape := { n0 := 0, n1 := 0, n2 := 0, n3 := 0 },
      probeSel := 0, pidx0 := 0, pidx1 := 0, pidx2 := 0, pidx3 := 0, probeRe := 0, probeIm := 0, probeV := false,
      rem := s.rem, srcPlan := s.srcPlan, inputs := rest, reply := none, rawCap := s.rawCap, free := s.free }

/-- R276: in the state a reset event leaves (`ResetEventRestoresTheTable` says which), every command is defined: LOAD, FRAME, NOP and ERRCLR do
nothing, DEINT, RESHAPE and PERMUTE raise StaleOperand at their stage, PROBE reports no capture. -/
def Obligations.ResetStateIsSafe : Prop :=
  ∀ u s : State, s = resetEvent u →
    exec .load s = .next s ∧ exec .frame s = .next s ∧ exec .nop s = .next s ∧ exec .errclr s = .next s
    ∧ exec .probe s = .next s ∧ s.probeV = false
    ∧ exec .deint s = .next { s with errCode := 6, errStage := 2, errFrame := 0, mode := .error }
    ∧ exec .reshape s = .next { s with errCode := 6, errStage := 3, errFrame := 0, mode := .error }
    ∧ exec .permute s = .next { s with errCode := 6, errStage := 4, errFrame := 0, mode := .error }

/-! ### Invariants and whole-machine rules -/

/-- R42 at reset. -/
def Obligations.InvariantsHoldAtReset : Prop := Invariants State.reset ∧ OneFrame State.reset

/-- R42: every step from any state that meets the invariants gives a state that meets them. -/
def Obligations.StepKeepsTheInvariants : Prop :=
  ∀ s t : State, Invariants s → step s = .next t → Invariants t

/-- R42 item 5: every valid buffer derives from the one resident frame, kept by every step. -/
def Obligations.StepKeepsOneFrame : Prop :=
  ∀ s t : State, Invariants s → OneFrame s → step s = .next t → OneFrame t

/-- R42 item 6: no command reads an element that holds no value: under the invariants every command completes, and the only stop of a
step is a host's read of a window. -/
def Obligations.CommandsCompleteUnderTheInvariants : Prop :=
  ∀ s : State, Invariants s →
    (∀ i : Instr, Completes (exec i s))
    ∧ (Completes (step s) ∨ ∃ a rest, s.inputs = .memRead a :: rest ∧ step s = .fault .windowNoValue)

/-- R231: the modes and every transition between them; outside READY a recorded error is never overwritten. -/
def Obligations.ModeTransitions : Prop :=
  ∀ (s t : State) (x : Input) (rest : List Input), s.inputs = x :: rest → step s = .next t →
    (x = .reset → t.mode = .ready)
    ∧ (x ≠ .reset → s.mode = .ready →
        (t.mode = .ready ∧ t.errCode = s.errCode)
        ∨ (t.mode = .error ∧ (t.errCode = 1 ∨ t.errCode = 2 ∨ t.errCode = 6 ∨ t.errCode = 7))
        ∨ (t.mode = .halted ∧ (t.errCode = 3 ∨ t.errCode = 4 ∨ t.errCode = 5)))
    ∧ (x = .memWrite 0 0x00000007#32 → s.mode = .error → t.mode = .ready)
    ∧ (x ≠ .reset → x ≠ .memWrite 0 0x00000007#32 → s.mode = .error →
        t.mode = .error ∧ t.errCode = s.errCode ∧ t.errStage = s.errStage ∧ t.errFrame = s.errFrame)
    ∧ (x ≠ .reset → s.mode = .halted →
        t.mode = .halted ∧ t.errCode = s.errCode ∧ t.errStage = s.errStage ∧ t.errFrame = s.errFrame)

/-- R244: over a run of any length without a reset event HALTED is kept, the error registers stay as they are, no frame is read, and no
buffer and no shape changes. The clause that the undelivered bytes stay is the model's (log 20, DESIGN CHOICE: within a run nothing but
`SrcRead` changes them, R71): it is about what the block does, not about an environment that refills the source. -/
def Obligations.HaltedIsLeftOnlyByReset : Prop :=
  ∀ (k : Nat) (s t : State), s.mode = .halted → (∀ x ∈ s.inputs, x ≠ Input.reset) → core.run k s = .next t →
    t.mode = .halted ∧ t.errCode = s.errCode ∧ t.errStage = s.errStage ∧ t.errFrame = s.errFrame
    ∧ t.frameIdx = s.frameIdx ∧ t.rem = s.rem ∧ t.raw = s.raw ∧ t.cf = s.cf ∧ t.t0 = s.t0 ∧ t.t0Shape = s.t0Shape
    ∧ t.t1 = s.t1 ∧ t.t1Shape = s.t1Shape

/-- R233, R234, R236, R237: what an error of a command records: its code with the stage it arose at, and the frame index: `FRAME_IDX` for
codes 3 to 7, `FRAME_IDX - 1` for codes 1 and 2. -/
def Obligations.ErrorReportIdentifiesStageAndFrame : Prop :=
  ∀ (s t : State) (i : Instr), Invariants s → s.mode = .ready → exec i s = .next t → t.mode ≠ .ready →
    ((t.errCode = 3 ∨ t.errCode = 4 ∨ t.errCode = 5) ∧ t.errStage = 1 ∧ (i = .load ∨ i = .frame) ∧ t.mode = .halted
        ∧ t.errFrame = t.frameIdx)
    ∨ (t.errCode = 6 ∧ t.mode = .error ∧ t.errFrame = t.frameIdx
        ∧ ((i = .deint ∧ t.errStage = 2) ∨ (i = .reshape ∧ t.errStage = 3) ∨ (i = .permute ∧ t.errStage = 4)))
    ∨ (t.errCode = 1 ∧ t.mode = .error ∧ t.errStage = 2 ∧ (i = .deint ∨ i = .frame)
        ∧ t.errFrame.toNat + 1 = t.frameIdx.toNat)
    ∨ (t.errCode = 2 ∧ t.mode = .error ∧ t.errStage = 3 ∧ (i = .reshape ∨ i = .frame)
        ∧ t.errFrame.toNat + 1 = t.frameIdx.toNat)

/-- R31, R180: FRAME_IDX is cleared by reset and goes up by exactly 1 exactly when a frame is read in full: at a LOAD or a FRAME, in READY and
below CFG_TOTAL, with CFG_F within RAW_CAP and the source able to deliver `2*CFG_F` bytes (none to deliver when CFG_F is 0), whatever the
later steps of a FRAME do. At every other event, a failed frame read included, it stays. -/
def Obligations.FrameIndexCountsFramesRead : Prop :=
  ∀ (s t : State) (x : Input) (rest : List Input), s.inputs = x :: rest → step s = .next t →
    (x = .reset → t.frameIdx = 0)
    ∧ ((x = .memWrite 0 0x00000001#32 ∨ x = .memWrite 0 0x00000005#32) → s.mode = .ready →
        s.frameIdx.toNat < s.cfgTotal.toNat → s.cfgF.toNat ≤ s.rawCap →
        (s.cfgF.toNat = 0 ∨ (s.sourceReadable = true ∧ 2 * s.cfgF.toNat ≤ s.rem.length)) →
        t.frameIdx.toNat = s.frameIdx.toNat + 1)
    ∧ (x ≠ .reset →
        ¬((x = .memWrite 0 0x00000001#32 ∨ x = .memWrite 0 0x00000005#32) ∧ s.mode = .ready
          ∧ s.frameIdx.toNat < s.cfgTotal.toNat ∧ s.cfgF.toNat ≤ s.rawCap
          ∧ (s.cfgF.toNat = 0 ∨ (s.sourceReadable = true ∧ 2 * s.cfgF.toNat ≤ s.rem.length))) →
        t.frameIdx = s.frameIdx)

/-- R46, R39: the configuration and probe-index registers are never written by the block: no command changes one. -/
def Obligations.CommandsNeverWriteConfiguration : Prop :=
  ∀ (s t : State) (i : Instr), exec i s = .next t →
    t.cfgF = s.cfgF ∧ t.cfgN0 = s.cfgN0 ∧ t.cfgN1 = s.cfgN1 ∧ t.cfgN2 = s.cfgN2 ∧ t.cfgTotal = s.cfgTotal
    ∧ t.probeSel = s.probeSel ∧ t.pidx0 = s.pidx0 ∧ t.pidx1 = s.pidx1 ∧ t.pidx2 = s.pidx2 ∧ t.pidx3 = s.pidx3

/-- R71, R283, R272: the undelivered bytes change only by a frame read of LOAD or FRAME, which removes `2*CFG_F` of them or all that
remained; consumed bytes do not come back, at a reset either. -/
def Obligations.ConsumedBytesDoNotComeBack : Prop :=
  ∀ (s t : State) (x : Input) (rest : List Input), s.inputs = x :: rest → step s = .next t →
    t.rem <:+ s.rem
    ∧ (t.rem = s.rem
        ∨ ((x = .memWrite 0 0x00000001#32 ∨ x = .memWrite 0 0x00000005#32)
            ∧ (t.rem = s.rem.drop (2 * s.cfgF.toNat) ∨ t.rem = [])))

/-- R281, column "sampled by": each command does the same with any other value in a register it does not sample, the register's value itself
carried along. NOP, ERRCLR, DEINT, PERMUTE and PROBE sample none of the five configuration registers (DEINT uses RAW_LEN, PERMUTE
T0_SHAPE0..3); LOAD does not sample CFG_N0..2; RESHAPE samples neither CFG_F nor CFG_TOTAL; and no command but PROBE samples PROBE_SEL or
PIDX0..3. -/
def Obligations.CommandsSampleOnlyTheirRegisters : Prop :=
  ∀ (s t : State) (f a b c total sel i0 i1 i2 i3 : Word),
    (∀ i ∈ [Instr.nop, .errclr, .deint, .permute, .probe], exec i s = .next t →
      exec i { s with cfgF := f, cfgN0 := a, cfgN1 := b, cfgN2 := c, cfgTotal := total }
        = .next { t with cfgF := f, cfgN0 := a, cfgN1 := b, cfgN2 := c, cfgTotal := total })
    ∧ (exec .load s = .next t →
      exec .load { s with cfgN0 := a, cfgN1 := b, cfgN2 := c } = .next { t with cfgN0 := a, cfgN1 := b, cfgN2 := c })
    ∧ (exec .reshape s = .next t →
      exec .reshape { s with cfgF := f, cfgTotal := total } = .next { t with cfgF := f, cfgTotal := total })
    ∧ (∀ i : Instr, i ≠ .probe → exec i s = .next t →
      exec i { s with probeSel := sel, pidx0 := i0, pidx1 := i1, pidx2 := i2, pidx3 := i3 }
        = .next { t with probeSel := sel, pidx0 := i0, pidx1 := i1, pidx2 := i2, pidx3 := i3 })

/-! ### The bytes of a sample -/

/-- R9, R67, R94: a sample's first byte is its less significant one; its pattern is `lo + 256*hi`, its signed value is that where `hi < 128` and
that less 65536 otherwise; and the samples of `2n` bytes are the `n` samples of the byte pairs `2k`, `2k+1`. (Two's complement is the
spec's own general-knowledge passage G3: log 14.) -/
def Obligations.SamplesAreLittleEndian : Prop :=
  (∀ lo hi : Byte,
    (i16 lo hi).toNat = lo.toNat + 256 * hi.toNat
    ∧ (hi.toNat < 128 → (i16 lo hi).toInt = lo.toNat + 256 * hi.toNat)
    ∧ (128 ≤ hi.toNat → (i16 lo hi).toInt = lo.toNat + 256 * hi.toNat - 65536))
  ∧ ∀ (n : Nat) (b : List Byte), b.length = 2 * n →
    (samplesOf b).length = n
    ∧ ∀ k < n, ∃ (lo hi : Byte) (x : Sample),
        b[2 * k]? = some lo ∧ b[2 * k + 1]? = some hi ∧ (samplesOf b)[k]? = some x
        ∧ x.toNat = lo.toNat + 256 * hi.toNat
end

