-- ==== Sys2Proof/Laws/State.lean ====
section
/-! SUPPORT. One lemma per field per shared update of the state, so that no later proof unfolds a record update. -/

namespace Sys2Proof.Machine

/-! ### `release(RAW)` (R37) -/

@[simp] theorem releaseRaw_cfgF (s : State) : (releaseRaw s).cfgF = s.cfgF := rfl
@[simp] theorem releaseRaw_cfgN0 (s : State) : (releaseRaw s).cfgN0 = s.cfgN0 := rfl
@[simp] theorem releaseRaw_cfgN1 (s : State) : (releaseRaw s).cfgN1 = s.cfgN1 := rfl
@[simp] theorem releaseRaw_cfgN2 (s : State) : (releaseRaw s).cfgN2 = s.cfgN2 := rfl
@[simp] theorem releaseRaw_cfgTotal (s : State) : (releaseRaw s).cfgTotal = s.cfgTotal := rfl
@[simp] theorem releaseRaw_mode (s : State) : (releaseRaw s).mode = s.mode := rfl
@[simp] theorem releaseRaw_errCode (s : State) : (releaseRaw s).errCode = s.errCode := rfl
@[simp] theorem releaseRaw_errStage (s : State) : (releaseRaw s).errStage = s.errStage := rfl
@[simp] theorem releaseRaw_errFrame (s : State) : (releaseRaw s).errFrame = s.errFrame := rfl
@[simp] theorem releaseRaw_frameIdx (s : State) : (releaseRaw s).frameIdx = s.frameIdx := rfl
@[simp] theorem releaseRaw_raw (s : State) : (releaseRaw s).raw = .released := rfl
@[simp] theorem releaseRaw_cf (s : State) : (releaseRaw s).cf = s.cf := rfl
@[simp] theorem releaseRaw_t0 (s : State) : (releaseRaw s).t0 = s.t0 := rfl
@[simp] theorem releaseRaw_t0Shape (s : State) : (releaseRaw s).t0Shape = s.t0Shape := rfl
@[simp] theorem releaseRaw_t1 (s : State) : (releaseRaw s).t1 = s.t1 := rfl
@[simp] theorem releaseRaw_t1Shape (s : State) : (releaseRaw s).t1Shape = s.t1Shape := rfl
@[simp] theorem releaseRaw_probeSel (s : State) : (releaseRaw s).probeSel = s.probeSel := rfl
@[simp] theorem releaseRaw_pidx0 (s : State) : (releaseRaw s).pidx0 = s.pidx0 := rfl
@[simp] theorem releaseRaw_pidx1 (s : State) : (releaseRaw s).pidx1 = s.pidx1 := rfl
@[simp] theorem releaseRaw_pidx2 (s : State) : (releaseRaw s).pidx2 = s.pidx2 := rfl
@[simp] theorem releaseRaw_pidx3 (s : State) : (releaseRaw s).pidx3 = s.pidx3 := rfl
@[simp] theorem releaseRaw_probeRe (s : State) : (releaseRaw s).probeRe = s.probeRe := rfl
@[simp] theorem releaseRaw_probeIm (s : State) : (releaseRaw s).probeIm = s.probeIm := rfl
@[simp] theorem releaseRaw_probeV (s : State) : (releaseRaw s).probeV = s.probeV := rfl
@[simp] theorem releaseRaw_rem (s : State) : (releaseRaw s).rem = s.rem := rfl
@[simp] theorem releaseRaw_srcPlan (s : State) : (releaseRaw s).srcPlan = s.srcPlan := rfl
@[simp] theorem releaseRaw_inputs (s : State) : (releaseRaw s).inputs = s.inputs := rfl
@[simp] theorem releaseRaw_reply (s : State) : (releaseRaw s).reply = s.reply := rfl
@[simp] theorem releaseRaw_rawCap (s : State) : (releaseRaw s).rawCap = s.rawCap := rfl
@[simp] theorem releaseRaw_free (s : State) : (releaseRaw s).free = s.free := rfl

/-! ### `release(CF)` (R37) -/

@[simp] theorem releaseCf_cfgF (s : State) : (releaseCf s).cfgF = s.cfgF := rfl
@[simp] theorem releaseCf_cfgN0 (s : State) : (releaseCf s).cfgN0 = s.cfgN0 := rfl
@[simp] theorem releaseCf_cfgN1 (s : State) : (releaseCf s).cfgN1 = s.cfgN1 := rfl
@[simp] theorem releaseCf_cfgN2 (s : State) : (releaseCf s).cfgN2 = s.cfgN2 := rfl
@[simp] theorem releaseCf_cfgTotal (s : State) : (releaseCf s).cfgTotal = s.cfgTotal := rfl
@[simp] theorem releaseCf_mode (s : State) : (releaseCf s).mode = s.mode := rfl
@[simp] theorem releaseCf_errCode (s : State) : (releaseCf s).errCode = s.errCode := rfl
@[simp] theorem releaseCf_errStage (s : State) : (releaseCf s).errStage = s.errStage := rfl
@[simp] theorem releaseCf_errFrame (s : State) : (releaseCf s).errFrame = s.errFrame := rfl
@[simp] theorem releaseCf_frameIdx (s : State) : (releaseCf s).frameIdx = s.frameIdx := rfl
@[simp] theorem releaseCf_raw (s : State) : (releaseCf s).raw = s.raw := rfl
@[simp] theorem releaseCf_cf (s : State) : (releaseCf s).cf = .released := rfl
@[simp] theorem releaseCf_t0 (s : State) : (releaseCf s).t0 = s.t0 := rfl
@[simp] theorem releaseCf_t0Shape (s : State) : (releaseCf s).t0Shape = s.t0Shape := rfl
@[simp] theorem releaseCf_t1 (s : State) : (releaseCf s).t1 = s.t1 := rfl
@[simp] theorem releaseCf_t1Shape (s : State) : (releaseCf s).t1Shape = s.t1Shape := rfl
@[simp] theorem releaseCf_probeSel (s : State) : (releaseCf s).probeSel = s.probeSel := rfl
@[simp] theorem releaseCf_pidx0 (s : State) : (releaseCf s).pidx0 = s.pidx0 := rfl
@[simp] theorem releaseCf_pidx1 (s : State) : (releaseCf s).pidx1 = s.pidx1 := rfl
@[simp] theorem releaseCf_pidx2 (s : State) : (releaseCf s).pidx2 = s.pidx2 := rfl
@[simp] theorem releaseCf_pidx3 (s : State) : (releaseCf s).pidx3 = s.pidx3 := rfl
@[simp] theorem releaseCf_probeRe (s : State) : (releaseCf s).probeRe = s.probeRe := rfl
@[simp] theorem releaseCf_probeIm (s : State) : (releaseCf s).probeIm = s.probeIm := rfl
@[simp] theorem releaseCf_probeV (s : State) : (releaseCf s).probeV = s.probeV := rfl
@[simp] theorem releaseCf_rem (s : State) : (releaseCf s).rem = s.rem := rfl
@[simp] theorem releaseCf_srcPlan (s : State) : (releaseCf s).srcPlan = s.srcPlan := rfl
@[simp] theorem releaseCf_inputs (s : State) : (releaseCf s).inputs = s.inputs := rfl
@[simp] theorem releaseCf_reply (s : State) : (releaseCf s).reply = s.reply := rfl
@[simp] theorem releaseCf_rawCap (s : State) : (releaseCf s).rawCap = s.rawCap := rfl
@[simp] theorem releaseCf_free (s : State) : (releaseCf s).free = s.free := rfl

/-! ### `release(T0)` (R37) -/

@[simp] theorem releaseT0_cfgF (s : State) : (releaseT0 s).cfgF = s.cfgF := rfl
@[simp] theorem releaseT0_cfgN0 (s : State) : (releaseT0 s).cfgN0 = s.cfgN0 := rfl
@[simp] theorem releaseT0_cfgN1 (s : State) : (releaseT0 s).cfgN1 = s.cfgN1 := rfl
@[simp] theorem releaseT0_cfgN2 (s : State) : (releaseT0 s).cfgN2 = s.cfgN2 := rfl
@[simp] theorem releaseT0_cfgTotal (s : State) : (releaseT0 s).cfgTotal = s.cfgTotal := rfl
@[simp] theorem releaseT0_mode (s : State) : (releaseT0 s).mode = s.mode := rfl
@[simp] theorem releaseT0_errCode (s : State) : (releaseT0 s).errCode = s.errCode := rfl
@[simp] theorem releaseT0_errStage (s : State) : (releaseT0 s).errStage = s.errStage := rfl
@[simp] theorem releaseT0_errFrame (s : State) : (releaseT0 s).errFrame = s.errFrame := rfl
@[simp] theorem releaseT0_frameIdx (s : State) : (releaseT0 s).frameIdx = s.frameIdx := rfl
@[simp] theorem releaseT0_raw (s : State) : (releaseT0 s).raw = s.raw := rfl
@[simp] theorem releaseT0_cf (s : State) : (releaseT0 s).cf = s.cf := rfl
@[simp] theorem releaseT0_t0 (s : State) : (releaseT0 s).t0 = .released := rfl
@[simp] theorem releaseT0_t0Shape (s : State) : (releaseT0 s).t0Shape = .zero := rfl
@[simp] theorem releaseT0_t1 (s : State) : (releaseT0 s).t1 = s.t1 := rfl
@[simp] theorem releaseT0_t1Shape (s : State) : (releaseT0 s).t1Shape = s.t1Shape := rfl
@[simp] theorem releaseT0_probeSel (s : State) : (releaseT0 s).probeSel = s.probeSel := rfl
@[simp] theorem releaseT0_pidx0 (s : State) : (releaseT0 s).pidx0 = s.pidx0 := rfl
@[simp] theorem releaseT0_pidx1 (s : State) : (releaseT0 s).pidx1 = s.pidx1 := rfl
@[simp] theorem releaseT0_pidx2 (s : State) : (releaseT0 s).pidx2 = s.pidx2 := rfl
@[simp] theorem releaseT0_pidx3 (s : State) : (releaseT0 s).pidx3 = s.pidx3 := rfl
@[simp] theorem releaseT0_probeRe (s : State) : (releaseT0 s).probeRe = s.probeRe := rfl
@[simp] theorem releaseT0_probeIm (s : State) : (releaseT0 s).probeIm = s.probeIm := rfl
@[simp] theorem releaseT0_probeV (s : State) : (releaseT0 s).probeV = s.probeV := rfl
@[simp] theorem releaseT0_rem (s : State) : (releaseT0 s).rem = s.rem := rfl
@[simp] theorem releaseT0_srcPlan (s : State) : (releaseT0 s).srcPlan = s.srcPlan := rfl
@[simp] theorem releaseT0_inputs (s : State) : (releaseT0 s).inputs = s.inputs := rfl
@[simp] theorem releaseT0_reply (s : State) : (releaseT0 s).reply = s.reply := rfl
@[simp] theorem releaseT0_rawCap (s : State) : (releaseT0 s).rawCap = s.rawCap := rfl
@[simp] theorem releaseT0_free (s : State) : (releaseT0 s).free = s.free := rfl

/-! ### `release(T1)` (R37) -/

@[simp] theorem releaseT1_cfgF (s : State) : (releaseT1 s).cfgF = s.cfgF := rfl
@[simp] theorem releaseT1_cfgN0 (s : State) : (releaseT1 s).cfgN0 = s.cfgN0 := rfl
@[simp] theorem releaseT1_cfgN1 (s : State) : (releaseT1 s).cfgN1 = s.cfgN1 := rfl
@[simp] theorem releaseT1_cfgN2 (s : State) : (releaseT1 s).cfgN2 = s.cfgN2 := rfl
@[simp] theorem releaseT1_cfgTotal (s : State) : (releaseT1 s).cfgTotal = s.cfgTotal := rfl
@[simp] theorem releaseT1_mode (s : State) : (releaseT1 s).mode = s.mode := rfl
@[simp] theorem releaseT1_errCode (s : State) : (releaseT1 s).errCode = s.errCode := rfl
@[simp] theorem releaseT1_errStage (s : State) : (releaseT1 s).errStage = s.errStage := rfl
@[simp] theorem releaseT1_errFrame (s : State) : (releaseT1 s).errFrame = s.errFrame := rfl
@[simp] theorem releaseT1_frameIdx (s : State) : (releaseT1 s).frameIdx = s.frameIdx := rfl
@[simp] theorem releaseT1_raw (s : State) : (releaseT1 s).raw = s.raw := rfl
@[simp] theorem releaseT1_cf (s : State) : (releaseT1 s).cf = s.cf := rfl
@[simp] theorem releaseT1_t0 (s : State) : (releaseT1 s).t0 = s.t0 := rfl
@[simp] theorem releaseT1_t0Shape (s : State) : (releaseT1 s).t0Shape = s.t0Shape := rfl
@[simp] theorem releaseT1_t1 (s : State) : (releaseT1 s).t1 = .released := rfl
@[simp] theorem releaseT1_t1Shape (s : State) : (releaseT1 s).t1Shape = .zero := rfl
@[simp] theorem releaseT1_probeSel (s : State) : (releaseT1 s).probeSel = s.probeSel := rfl
@[simp] theorem releaseT1_pidx0 (s : State) : (releaseT1 s).pidx0 = s.pidx0 := rfl
@[simp] theorem releaseT1_pidx1 (s : State) : (releaseT1 s).pidx1 = s.pidx1 := rfl
@[simp] theorem releaseT1_pidx2 (s : State) : (releaseT1 s).pidx2 = s.pidx2 := rfl
@[simp] theorem releaseT1_pidx3 (s : State) : (releaseT1 s).pidx3 = s.pidx3 := rfl
@[simp] theorem releaseT1_probeRe (s : State) : (releaseT1 s).probeRe = s.probeRe := rfl
@[simp] theorem releaseT1_probeIm (s : State) : (releaseT1 s).probeIm = s.probeIm := rfl
@[simp] theorem releaseT1_probeV (s : State) : (releaseT1 s).probeV = s.probeV := rfl
@[simp] theorem releaseT1_rem (s : State) : (releaseT1 s).rem = s.rem := rfl
@[simp] theorem releaseT1_srcPlan (s : State) : (releaseT1 s).srcPlan = s.srcPlan := rfl
@[simp] theorem releaseT1_inputs (s : State) : (releaseT1 s).inputs = s.inputs := rfl
@[simp] theorem releaseT1_reply (s : State) : (releaseT1 s).reply = s.reply := rfl
@[simp] theorem releaseT1_rawCap (s : State) : (releaseT1 s).rawCap = s.rawCap := rfl
@[simp] theorem releaseT1_free (s : State) : (releaseT1 s).free = s.free := rfl

/-! ### The release of all four (R180 step 2) -/

@[simp] theorem releaseAll_cfgF (s : State) : (releaseAll s).cfgF = s.cfgF := rfl
@[simp] theorem releaseAll_cfgN0 (s : State) : (releaseAll s).cfgN0 = s.cfgN0 := rfl
@[simp] theorem releaseAll_cfgN1 (s : State) : (releaseAll s).cfgN1 = s.cfgN1 := rfl
@[simp] theorem releaseAll_cfgN2 (s : State) : (releaseAll s).cfgN2 = s.cfgN2 := rfl
@[simp] theorem releaseAll_cfgTotal (s : State) : (releaseAll s).cfgTotal = s.cfgTotal := rfl
@[simp] theorem releaseAll_mode (s : State) : (releaseAll s).mode = s.mode := rfl
@[simp] theorem releaseAll_errCode (s : State) : (releaseAll s).errCode = s.errCode := rfl
@[simp] theorem releaseAll_errStage (s : State) : (releaseAll s).errStage = s.errStage := rfl
@[simp] theorem releaseAll_errFrame (s : State) : (releaseAll s).errFrame = s.errFrame := rfl
@[simp] theorem releaseAll_frameIdx (s : State) : (releaseAll s).frameIdx = s.frameIdx := rfl
@[simp] theorem releaseAll_raw (s : State) : (releaseAll s).raw = .released := rfl
@[simp] theorem releaseAll_cf (s : State) : (releaseAll s).cf = .released := rfl
@[simp] theorem releaseAll_t0 (s : State) : (releaseAll s).t0 = .released := rfl
@[simp] theorem releaseAll_t0Shape (s : State) : (releaseAll s).t0Shape = .zero := rfl
@[simp] theorem releaseAll_t1 (s : State) : (releaseAll s).t1 = .released := rfl
@[simp] theorem releaseAll_t1Shape (s : State) : (releaseAll s).t1Shape = .zero := rfl
@[simp] theorem releaseAll_probeSel (s : State) : (releaseAll s).probeSel = s.probeSel := rfl
@[simp] theorem releaseAll_pidx0 (s : State) : (releaseAll s).pidx0 = s.pidx0 := rfl
@[simp] theorem releaseAll_pidx1 (s : State) : (releaseAll s).pidx1 = s.pidx1 := rfl
@[simp] theorem releaseAll_pidx2 (s : State) : (releaseAll s).pidx2 = s.pidx2 := rfl
@[simp] theorem releaseAll_pidx3 (s : State) : (releaseAll s).pidx3 = s.pidx3 := rfl
@[simp] theorem releaseAll_probeRe (s : State) : (releaseAll s).probeRe = s.probeRe := rfl
@[simp] theorem releaseAll_probeIm (s : State) : (releaseAll s).probeIm = s.probeIm := rfl
@[simp] theorem releaseAll_probeV (s : State) : (releaseAll s).probeV = s.probeV := rfl
@[simp] theorem releaseAll_rem (s : State) : (releaseAll s).rem = s.rem := rfl
@[simp] theorem releaseAll_srcPlan (s : State) : (releaseAll s).srcPlan = s.srcPlan := rfl
@[simp] theorem releaseAll_inputs (s : State) : (releaseAll s).inputs = s.inputs := rfl
@[simp] theorem releaseAll_reply (s : State) : (releaseAll s).reply = s.reply := rfl
@[simp] theorem releaseAll_rawCap (s : State) : (releaseAll s).rawCap = s.rawCap := rfl
@[simp] theorem releaseAll_free (s : State) : (releaseAll s).free = s.free := rfl

/-! ### The clearing of the probe capture (R180 step 2) -/

@[simp] theorem clearProbe_cfgF (s : State) : (clearProbe s).cfgF = s.cfgF := rfl
@[simp] theorem clearProbe_cfgN0 (s : State) : (clearProbe s).cfgN0 = s.cfgN0 := rfl
@[simp] theorem clearProbe_cfgN1 (s : State) : (clearProbe s).cfgN1 = s.cfgN1 := rfl
@[simp] theorem clearProbe_cfgN2 (s : State) : (clearProbe s).cfgN2 = s.cfgN2 := rfl
@[simp] theorem clearProbe_cfgTotal (s : State) : (clearProbe s).cfgTotal = s.cfgTotal := rfl
@[simp] theorem clearProbe_mode (s : State) : (clearProbe s).mode = s.mode := rfl
@[simp] theorem clearProbe_errCode (s : State) : (clearProbe s).errCode = s.errCode := rfl
@[simp] theorem clearProbe_errStage (s : State) : (clearProbe s).errStage = s.errStage := rfl
@[simp] theorem clearProbe_errFrame (s : State) : (clearProbe s).errFrame = s.errFrame := rfl
@[simp] theorem clearProbe_frameIdx (s : State) : (clearProbe s).frameIdx = s.frameIdx := rfl
@[simp] theorem clearProbe_raw (s : State) : (clearProbe s).raw = s.raw := rfl
@[simp] theorem clearProbe_cf (s : State) : (clearProbe s).cf = s.cf := rfl
@[simp] theorem clearProbe_t0 (s : State) : (clearProbe s).t0 = s.t0 := rfl
@[simp] theorem clearProbe_t0Shape (s : State) : (clearProbe s).t0Shape = s.t0Shape := rfl
@[simp] theorem clearProbe_t1 (s : State) : (clearProbe s).t1 = s.t1 := rfl
@[simp] theorem clearProbe_t1Shape (s : State) : (clearProbe s).t1Shape = s.t1Shape := rfl
@[simp] theorem clearProbe_probeSel (s : State) : (clearProbe s).probeSel = s.probeSel := rfl
@[simp] theorem clearProbe_pidx0 (s : State) : (clearProbe s).pidx0 = s.pidx0 := rfl
@[simp] theorem clearProbe_pidx1 (s : State) : (clearProbe s).pidx1 = s.pidx1 := rfl
@[simp] theorem clearProbe_pidx2 (s : State) : (clearProbe s).pidx2 = s.pidx2 := rfl
@[simp] theorem clearProbe_pidx3 (s : State) : (clearProbe s).pidx3 = s.pidx3 := rfl
@[simp] theorem clearProbe_probeRe (s : State) : (clearProbe s).probeRe = 0 := rfl
@[simp] theorem clearProbe_probeIm (s : State) : (clearProbe s).probeIm = 0 := rfl
@[simp] theorem clearProbe_probeV (s : State) : (clearProbe s).probeV = false := rfl
@[simp] theorem clearProbe_rem (s : State) : (clearProbe s).rem = s.rem := rfl
@[simp] theorem clearProbe_srcPlan (s : State) : (clearProbe s).srcPlan = s.srcPlan := rfl
@[simp] theorem clearProbe_inputs (s : State) : (clearProbe s).inputs = s.inputs := rfl
@[simp] theorem clearProbe_reply (s : State) : (clearProbe s).reply = s.reply := rfl
@[simp] theorem clearProbe_rawCap (s : State) : (clearProbe s).rawCap = s.rawCap := rfl
@[simp] theorem clearProbe_free (s : State) : (clearProbe s).free = s.free := rfl

/-! ### Error entry (R236) -/

@[simp] theorem raise_cfgF (e : ErrorKind) (st : Stage) (s : State) : (raise e st s).cfgF = s.cfgF := rfl
@[simp] theorem raise_cfgN0 (e : ErrorKind) (st : Stage) (s : State) : (raise e st s).cfgN0 = s.cfgN0 := rfl
@[simp] theorem raise_cfgN1 (e : ErrorKind) (st : Stage) (s : State) : (raise e st s).cfgN1 = s.cfgN1 := rfl
@[simp] theorem raise_cfgN2 (e : ErrorKind) (st : Stage) (s : State) : (raise e st s).cfgN2 = s.cfgN2 := rfl
@[simp] theorem raise_cfgTotal (e : ErrorKind) (st : Stage) (s : State) : (raise e st s).cfgTotal = s.cfgTotal := rfl
@[simp] theorem raise_mode (e : ErrorKind) (st : Stage) (s : State) : (raise e st s).mode = e.modeAfter := rfl
@[simp] theorem raise_errCode (e : ErrorKind) (st : Stage) (s : State) : (raise e st s).errCode = e.code := rfl
@[simp] theorem raise_errStage (e : ErrorKind) (st : Stage) (s : State) : (raise e st s).errStage = st.code := rfl
@[simp] theorem raise_errFrame (e : ErrorKind) (st : Stage) (s : State) : (raise e st s).errFrame = errorFrame e s := rfl
@[simp] theorem raise_frameIdx (e : ErrorKind) (st : Stage) (s : State) : (raise e st s).frameIdx = s.frameIdx := rfl
@[simp] theorem raise_raw (e : ErrorKind) (st : Stage) (s : State) : (raise e st s).raw = s.raw := rfl
@[simp] theorem raise_cf (e : ErrorKind) (st : Stage) (s : State) : (raise e st s).cf = s.cf := rfl
@[simp] theorem raise_t0 (e : ErrorKind) (st : Stage) (s : State) : (raise e st s).t0 = s.t0 := rfl
@[simp] theorem raise_t0Shape (e : ErrorKind) (st : Stage) (s : State) : (raise e st s).t0Shape = s.t0Shape := rfl
@[simp] theorem raise_t1 (e : ErrorKind) (st : Stage) (s : State) : (raise e st s).t1 = s.t1 := rfl
@[simp] theorem raise_t1Shape (e : ErrorKind) (st : Stage) (s : State) : (raise e st s).t1Shape = s.t1Shape := rfl
@[simp] theorem raise_probeSel (e : ErrorKind) (st : Stage) (s : State) : (raise e st s).probeSel = s.probeSel := rfl
@[simp] theorem raise_pidx0 (e : ErrorKind) (st : Stage) (s : State) : (raise e st s).pidx0 = s.pidx0 := rfl
@[simp] theorem raise_pidx1 (e : ErrorKind) (st : Stage) (s : State) : (raise e st s).pidx1 = s.pidx1 := rfl
@[simp] theorem raise_pidx2 (e : ErrorKind) (st : Stage) (s : State) : (raise e st s).pidx2 = s.pidx2 := rfl
@[simp] theorem raise_pidx3 (e : ErrorKind) (st : Stage) (s : State) : (raise e st s).pidx3 = s.pidx3 := rfl
@[simp] theorem raise_probeRe (e : ErrorKind) (st : Stage) (s : State) : (raise e st s).probeRe = s.probeRe := rfl
@[simp] theorem raise_probeIm (e : ErrorKind) (st : Stage) (s : State) : (raise e st s).probeIm = s.probeIm := rfl
@[simp] theorem raise_probeV (e : ErrorKind) (st : Stage) (s : State) : (raise e st s).probeV = s.probeV := rfl
@[simp] theorem raise_rem (e : ErrorKind) (st : Stage) (s : State) : (raise e st s).rem = s.rem := rfl
@[simp] theorem raise_srcPlan (e : ErrorKind) (st : Stage) (s : State) : (raise e st s).srcPlan = s.srcPlan := rfl
@[simp] theorem raise_inputs (e : ErrorKind) (st : Stage) (s : State) : (raise e st s).inputs = s.inputs := rfl
@[simp] theorem raise_reply (e : ErrorKind) (st : Stage) (s : State) : (raise e st s).reply = s.reply := rfl
@[simp] theorem raise_rawCap (e : ErrorKind) (st : Stage) (s : State) : (raise e st s).rawCap = s.rawCap := rfl
@[simp] theorem raise_free (e : ErrorKind) (st : Stage) (s : State) : (raise e st s).free = s.free := rfl

/-! ### The return from ERROR (R212) -/

@[simp] theorem returnFromError_cfgF (s : State) : (returnFromError s).cfgF = s.cfgF := rfl
@[simp] theorem returnFromError_cfgN0 (s : State) : (returnFromError s).cfgN0 = s.cfgN0 := rfl
@[simp] theorem returnFromError_cfgN1 (s : State) : (returnFromError s).cfgN1 = s.cfgN1 := rfl
@[simp] theorem returnFromError_cfgN2 (s : State) : (returnFromError s).cfgN2 = s.cfgN2 := rfl
@[simp] theorem returnFromError_cfgTotal (s : State) : (returnFromError s).cfgTotal = s.cfgTotal := rfl
@[simp] theorem returnFromError_mode (s : State) : (returnFromError s).mode = .ready := rfl
@[simp] theorem returnFromError_errCode (s : State) : (returnFromError s).errCode = 0 := rfl
@[simp] theorem returnFromError_errStage (s : State) : (returnFromError s).errStage = 0 := rfl
@[simp] theorem returnFromError_errFrame (s : State) : (returnFromError s).errFrame = 0 := rfl
@[simp] theorem returnFromError_frameIdx (s : State) : (returnFromError s).frameIdx = s.frameIdx := rfl
@[simp] theorem returnFromError_raw (s : State) : (returnFromError s).raw = s.raw := rfl
@[simp] theorem returnFromError_cf (s : State) : (returnFromError s).cf = s.cf := rfl
@[simp] theorem returnFromError_t0 (s : State) : (returnFromError s).t0 = s.t0 := rfl
@[simp] theorem returnFromError_t0Shape (s : State) : (returnFromError s).t0Shape = s.t0Shape := rfl
@[simp] theorem returnFromError_t1 (s : State) : (returnFromError s).t1 = s.t1 := rfl
@[simp] theorem returnFromError_t1Shape (s : State) : (returnFromError s).t1Shape = s.t1Shape := rfl
@[simp] theorem returnFromError_probeSel (s : State) : (returnFromError s).probeSel = s.probeSel := rfl
@[simp] theorem returnFromError_pidx0 (s : State) : (returnFromError s).pidx0 = s.pidx0 := rfl
@[simp] theorem returnFromError_pidx1 (s : State) : (returnFromError s).pidx1 = s.pidx1 := rfl
@[simp] theorem returnFromError_pidx2 (s : State) : (returnFromError s).pidx2 = s.pidx2 := rfl
@[simp] theorem returnFromError_pidx3 (s : State) : (returnFromError s).pidx3 = s.pidx3 := rfl
@[simp] theorem returnFromError_probeRe (s : State) : (returnFromError s).probeRe = s.probeRe := rfl
@[simp] theorem returnFromError_probeIm (s : State) : (returnFromError s).probeIm = s.probeIm := rfl
@[simp] theorem returnFromError_probeV (s : State) : (returnFromError s).probeV = s.probeV := rfl
@[simp] theorem returnFromError_rem (s : State) : (returnFromError s).rem = s.rem := rfl
@[simp] theorem returnFromError_srcPlan (s : State) : (returnFromError s).srcPlan = s.srcPlan := rfl
@[simp] theorem returnFromError_inputs (s : State) : (returnFromError s).inputs = s.inputs := rfl
@[simp] theorem returnFromError_reply (s : State) : (returnFromError s).reply = s.reply := rfl
@[simp] theorem returnFromError_rawCap (s : State) : (returnFromError s).rawCap = s.rawCap := rfl
@[simp] theorem returnFromError_free (s : State) : (returnFromError s).free = s.free := rfl

/-! ### Taking an event from the queue -/

@[simp] theorem takeInput_cfgF (rest : List Input) (s : State) : (takeInput rest s).cfgF = s.cfgF := rfl
@[simp] theorem takeInput_cfgN0 (rest : List Input) (s : State) : (takeInput rest s).cfgN0 = s.cfgN0 := rfl
@[simp] theorem takeInput_cfgN1 (rest : List Input) (s : State) : (takeInput rest s).cfgN1 = s.cfgN1 := rfl
@[simp] theorem takeInput_cfgN2 (rest : List Input) (s : State) : (takeInput rest s).cfgN2 = s.cfgN2 := rfl
@[simp] theorem takeInput_cfgTotal (rest : List Input) (s : State) : (takeInput rest s).cfgTotal = s.cfgTotal := rfl
@[simp] theorem takeInput_mode (rest : List Input) (s : State) : (takeInput rest s).mode = s.mode := rfl
@[simp] theorem takeInput_errCode (rest : List Input) (s : State) : (takeInput rest s).errCode = s.errCode := rfl
@[simp] theorem takeInput_errStage (rest : List Input) (s : State) : (takeInput rest s).errStage = s.errStage := rfl
@[simp] theorem takeInput_errFrame (rest : List Input) (s : State) : (takeInput rest s).errFrame = s.errFrame := rfl
@[simp] theorem takeInput_frameIdx (rest : List Input) (s : State) : (takeInput rest s).frameIdx = s.frameIdx := rfl
@[simp] theorem takeInput_raw (rest : List Input) (s : State) : (takeInput rest s).raw = s.raw := rfl
@[simp] theorem takeInput_cf (rest : List Input) (s : State) : (takeInput rest s).cf = s.cf := rfl
@[simp] theorem takeInput_t0 (rest : List Input) (s : State) : (takeInput rest s).t0 = s.t0 := rfl
@[simp] theorem takeInput_t0Shape (rest : List Input) (s : State) : (takeInput rest s).t0Shape = s.t0Shape := rfl
@[simp] theorem takeInput_t1 (rest : List Input) (s : State) : (takeInput rest s).t1 = s.t1 := rfl
@[simp] theorem takeInput_t1Shape (rest : List Input) (s : State) : (takeInput rest s).t1Shape = s.t1Shape := rfl
@[simp] theorem takeInput_probeSel (rest : List Input) (s : State) : (takeInput rest s).probeSel = s.probeSel := rfl
@[simp] theorem takeInput_pidx0 (rest : List Input) (s : State) : (takeInput rest s).pidx0 = s.pidx0 := rfl
@[simp] theorem takeInput_pidx1 (rest : List Input) (s : State) : (takeInput rest s).pidx1 = s.pidx1 := rfl
@[simp] theorem takeInput_pidx2 (rest : List Input) (s : State) : (takeInput rest s).pidx2 = s.pidx2 := rfl
@[simp] theorem takeInput_pidx3 (rest : List Input) (s : State) : (takeInput rest s).pidx3 = s.pidx3 := rfl
@[simp] theorem takeInput_probeRe (rest : List Input) (s : State) : (takeInput rest s).probeRe = s.probeRe := rfl
@[simp] theorem takeInput_probeIm (rest : List Input) (s : State) : (takeInput rest s).probeIm = s.probeIm := rfl
@[simp] theorem takeInput_probeV (rest : List Input) (s : State) : (takeInput rest s).probeV = s.probeV := rfl
@[simp] theorem takeInput_rem (rest : List Input) (s : State) : (takeInput rest s).rem = s.rem := rfl
@[simp] theorem takeInput_srcPlan (rest : List Input) (s : State) : (takeInput rest s).srcPlan = s.srcPlan := rfl
@[simp] theorem takeInput_inputs (rest : List Input) (s : State) : (takeInput rest s).inputs = rest := rfl
@[simp] theorem takeInput_reply (rest : List Input) (s : State) : (takeInput rest s).reply = none := rfl
@[simp] theorem takeInput_rawCap (rest : List Input) (s : State) : (takeInput rest s).rawCap = s.rawCap := rfl
@[simp] theorem takeInput_free (rest : List Input) (s : State) : (takeInput rest s).free = s.free := rfl

/-! ### The environment after a request (R71): the block's own state is as before -/

@[simp] theorem State.afterRequest_cfgF (s : State) : s.afterRequest.cfgF = s.cfgF := by
  unfold State.afterRequest; split <;> rfl
@[simp] theorem State.afterRequest_cfgN0 (s : State) : s.afterRequest.cfgN0 = s.cfgN0 := by
  unfold State.afterRequest; split <;> rfl
@[simp] theorem State.afterRequest_cfgN1 (s : State) : s.afterRequest.cfgN1 = s.cfgN1 := by
  unfold State.afterRequest; split <;> rfl
@[simp] theorem State.afterRequest_cfgN2 (s : State) : s.afterRequest.cfgN2 = s.cfgN2 := by
  unfold State.afterRequest; split <;> rfl
@[simp] theorem State.afterRequest_cfgTotal (s : State) : s.afterRequest.cfgTotal = s.cfgTotal := by
  unfold State.afterRequest; split <;> rfl
@[simp] theorem State.afterRequest_mode (s : State) : s.afterRequest.mode = s.mode := by
  unfold State.afterRequest; split <;> rfl
@[simp] theorem State.afterRequest_errCode (s : State) : s.afterRequest.errCode = s.errCode := by
  unfold State.afterRequest; split <;> rfl
@[simp] theorem State.afterRequest_errStage (s : State) : s.afterRequest.errStage = s.errStage := by
  unfold State.afterRequest; split <;> rfl
@[simp] theorem State.afterRequest_errFrame (s : State) : s.afterRequest.errFrame = s.errFrame := by
  unfold State.afterRequest; split <;> rfl
@[simp] theorem State.afterRequest_frameIdx (s : State) : s.afterRequest.frameIdx = s.frameIdx := by
  unfold State.afterRequest; split <;> rfl
@[simp] theorem State.afterRequest_raw (s : State) : s.afterRequest.raw = s.raw := by
  unfold State.afterRequest; split <;> rfl
@[simp] theorem State.afterRequest_cf (s : State) : s.afterRequest.cf = s.cf := by
  unfold State.afterRequest; split <;> rfl
@[simp] theorem State.afterRequest_t0 (s : State) : s.afterRequest.t0 = s.t0 := by
  unfold State.afterRequest; split <;> rfl
@[simp] theorem State.afterRequest_t0Shape (s : State) : s.afterRequest.t0Shape = s.t0Shape := by
  unfold State.afterRequest; split <;> rfl
@[simp] theorem State.afterRequest_t1 (s : State) : s.afterRequest.t1 = s.t1 := by
  unfold State.afterRequest; split <;> rfl
@[simp] theorem State.afterRequest_t1Shape (s : State) : s.afterRequest.t1Shape = s.t1Shape := by
  unfold State.afterRequest; split <;> rfl
@[simp] theorem State.afterRequest_probeSel (s : State) : s.afterRequest.probeSel = s.probeSel := by
  unfold State.afterRequest; split <;> rfl
@[simp] theorem State.afterRequest_pidx0 (s : State) : s.afterRequest.pidx0 = s.pidx0 := by
  unfold State.afterRequest; split <;> rfl
@[simp] theorem State.afterRequest_pidx1 (s : State) : s.afterRequest.pidx1 = s.pidx1 := by
  unfold State.afterRequest; split <;> rfl
@[simp] theorem State.afterRequest_pidx2 (s : State) : s.afterRequest.pidx2 = s.pidx2 := by
  unfold State.afterRequest; split <;> rfl
@[simp] theorem State.afterRequest_pidx3 (s : State) : s.afterRequest.pidx3 = s.pidx3 := by
  unfold State.afterRequest; split <;> rfl
@[simp] theorem State.afterRequest_probeRe (s : State) : s.afterRequest.probeRe = s.probeRe := by
  unfold State.afterRequest; split <;> rfl
@[simp] theorem State.afterRequest_probeIm (s : State) : s.afterRequest.probeIm = s.probeIm := by
  unfold State.afterRequest; split <;> rfl
@[simp] theorem State.afterRequest_probeV (s : State) : s.afterRequest.probeV = s.probeV := by
  unfold State.afterRequest; split <;> rfl
@[simp] theorem State.afterRequest_rem (s : State) : s.afterRequest.rem = s.rem := by
  unfold State.afterRequest; split <;> rfl
@[simp] theorem State.afterRequest_inputs (s : State) : s.afterRequest.inputs = s.inputs := by
  unfold State.afterRequest; split <;> rfl
@[simp] theorem State.afterRequest_reply (s : State) : s.afterRequest.reply = s.reply := by
  unfold State.afterRequest; split <;> rfl
@[simp] theorem State.afterRequest_rawCap (s : State) : s.afterRequest.rawCap = s.rawCap := by
  unfold State.afterRequest; split <;> rfl

/-! ### A write to a register that executes no command (R213): the fields no register write reaches -/

@[simp] theorem State.writeReg_mode (s : State) (r : Reg) (v : Word) : (s.writeReg r v).mode = s.mode := by
  cases r <;> rfl
@[simp] theorem State.writeReg_errCode (s : State) (r : Reg) (v : Word) : (s.writeReg r v).errCode = s.errCode := by
  cases r <;> rfl
@[simp] theorem State.writeReg_errStage (s : State) (r : Reg) (v : Word) : (s.writeReg r v).errStage = s.errStage := by
  cases r <;> rfl
@[simp] theorem State.writeReg_errFrame (s : State) (r : Reg) (v : Word) : (s.writeReg r v).errFrame = s.errFrame := by
  cases r <;> rfl
@[simp] theorem State.writeReg_frameIdx (s : State) (r : Reg) (v : Word) : (s.writeReg r v).frameIdx = s.frameIdx := by
  cases r <;> rfl
@[simp] theorem State.writeReg_raw (s : State) (r : Reg) (v : Word) : (s.writeReg r v).raw = s.raw := by
  cases r <;> rfl
@[simp] theorem State.writeReg_cf (s : State) (r : Reg) (v : Word) : (s.writeReg r v).cf = s.cf := by
  cases r <;> rfl
@[simp] theorem State.writeReg_t0 (s : State) (r : Reg) (v : Word) : (s.writeReg r v).t0 = s.t0 := by
  cases r <;> rfl
@[simp] theorem State.writeReg_t0Shape (s : State) (r : Reg) (v : Word) : (s.writeReg r v).t0Shape = s.t0Shape := by
  cases r <;> rfl
@[simp] theorem State.writeReg_t1 (s : State) (r : Reg) (v : Word) : (s.writeReg r v).t1 = s.t1 := by
  cases r <;> rfl
@[simp] theorem State.writeReg_t1Shape (s : State) (r : Reg) (v : Word) : (s.writeReg r v).t1Shape = s.t1Shape := by
  cases r <;> rfl
@[simp] theorem State.writeReg_probeRe (s : State) (r : Reg) (v : Word) : (s.writeReg r v).probeRe = s.probeRe := by
  cases r <;> rfl
@[simp] theorem State.writeReg_probeIm (s : State) (r : Reg) (v : Word) : (s.writeReg r v).probeIm = s.probeIm := by
  cases r <;> rfl
@[simp] theorem State.writeReg_probeV (s : State) (r : Reg) (v : Word) : (s.writeReg r v).probeV = s.probeV := by
  cases r <;> rfl
@[simp] theorem State.writeReg_rem (s : State) (r : Reg) (v : Word) : (s.writeReg r v).rem = s.rem := by
  cases r <;> rfl
@[simp] theorem State.writeReg_srcPlan (s : State) (r : Reg) (v : Word) : (s.writeReg r v).srcPlan = s.srcPlan := by
  cases r <;> rfl
@[simp] theorem State.writeReg_inputs (s : State) (r : Reg) (v : Word) : (s.writeReg r v).inputs = s.inputs := by
  cases r <;> rfl
@[simp] theorem State.writeReg_reply (s : State) (r : Reg) (v : Word) : (s.writeReg r v).reply = s.reply := by
  cases r <;> rfl
@[simp] theorem State.writeReg_rawCap (s : State) (r : Reg) (v : Word) : (s.writeReg r v).rawCap = s.rawCap := by
  cases r <;> rfl
@[simp] theorem State.writeReg_free (s : State) (r : Reg) (v : Word) : (s.writeReg r v).free = s.free := by
  cases r <;> rfl

end Sys2Proof.Machine
end

