-- ==== Sys2Proof/Laws/Ops.lean ====
section
/-! SUPPORT. One specification lemma per shared operation: what `collect`, a buffer read, the frame source, each step of a
command and command acceptance can answer. Provers cite these instead of unfolding the operations. -/

namespace Sys2Proof.Machine

/-! ### collect -/

theorem collect_eq_some_iff {α : Type} {f : Nat → Option α} {k : Nat} :
    ∀ {n : Nat} {xs : List α}, collect f n k = some xs ↔ xs.length = k ∧ ∀ m, m < k → f (n + m) = xs[m]? := by
  induction k with
  | zero =>
    intro n xs
    simp only [collect, Option.some.injEq]
    constructor
    · rintro rfl; simp
    · rintro ⟨h, -⟩; exact (List.length_eq_zero_iff.mp h).symm
  | succ k ih =>
    intro n xs
    constructor
    · intro h
      simp only [collect] at h
      split at h
      · cases h
      rename_i x hx
      split at h
      · cases h
      rename_i ys hys
      obtain ⟨hlen, hget⟩ := ih.mp hys
      cases h
      refine ⟨by simp [hlen], fun m hm => ?_⟩
      cases m with
      | zero => simpa using hx
      | succ m => simpa [Nat.add_assoc, Nat.add_comm 1 m] using hget m (by omega)
    · rintro ⟨hlen, hget⟩
      cases xs with
      | nil => simp at hlen
      | cons y ys =>
        have hy : f n = some y := by simpa using hget 0 (by omega)
        have hys : collect f (n + 1) k = some ys := by
          refine ih.mpr ⟨by simpa using hlen, fun m hm => ?_⟩
          simpa [Nat.add_assoc, Nat.add_comm 1 m] using hget (m + 1) (by omega)
        simp [collect, hy, hys]

theorem collect_isSome {α : Type} {f : Nat → Option α} {k : Nat} :
    ∀ {n : Nat}, (∀ m, m < k → (f (n + m)).isSome = true) → ∃ xs, collect f n k = some xs := by
  induction k with
  | zero => intro n _; exact ⟨[], rfl⟩
  | succ k ih =>
    intro n h
    obtain ⟨x, hx⟩ := Option.isSome_iff_exists.mp (by simpa using h 0 (by omega))
    obtain ⟨xs, hxs⟩ := @ih (n + 1) (fun m hm => by
      simpa [Nat.add_assoc, Nat.add_comm 1 m] using h (m + 1) (by omega))
    exact ⟨x :: xs, by simp [collect, hx, hxs]⟩

/-! ### Reading an element of a buffer (R38) -/

@[simp] theorem Buffer.released_valid {α : Type} : (Buffer.released : Buffer α).valid = false := rfl
@[simp] theorem Buffer.released_len {α : Type} : (Buffer.released : Buffer α).len = 0 := rfl
@[simp] theorem Buffer.released_data {α : Type} : (Buffer.released : Buffer α).data = [] := rfl
@[simp] theorem Buffer.produced_valid {α : Type} (len : Word) (d : List α) : (Buffer.produced len d).valid = true := rfl
@[simp] theorem Buffer.produced_len {α : Type} (len : Word) (d : List α) : (Buffer.produced len d).len = len := rfl
@[simp] theorem Buffer.produced_data {α : Type} (len : Word) (d : List α) : (Buffer.produced len d).data = d := rfl

/-- A released buffer holds no value anywhere (R37, R38). -/
@[simp] theorem Buffer.get?_released {α : Type} (n : Nat) : (Buffer.released : Buffer α).get? n = none := by
  simp [Buffer.get?]

/-- A read of a valid buffer below its length is the element the list holds there. -/
theorem Buffer.get?_of_valid {α : Type} {b : Buffer α} {n : Nat} (hv : b.valid = true) (hn : n < b.len.toNat) :
    b.get? n = b.data[n]? := by
  simp [Buffer.get?, hv, hn]

/-- A read that gives a value was of a valid buffer, below its length. -/
theorem Buffer.get?_eq_some {α : Type} {b : Buffer α} {n : Nat} {x : α} (h : b.get? n = some x) :
    b.valid = true ∧ n < b.len.toNat ∧ b.data[n]? = some x := by
  unfold Buffer.get? at h
  split at h
  · rename_i hc; simp at hc; exact ⟨hc.1, hc.2, h⟩
  · cases h

/-- The canonical form of one buffer, spelled out. -/
theorem Buffer.wf_iff {α : Type} {b : Buffer α} :
    b.wf = true ↔ (b.valid = true ∧ b.data.length = b.len.toNat) ∨ b = .released := by
  obtain ⟨v, l, d⟩ := b
  cases v <;> simp [Buffer.wf, Buffer.released]

/-- In canonical form every element of a valid buffer below its length holds a value (R37). -/
theorem Buffer.get?_isSome {α : Type} {b : Buffer α} (hwf : b.wf = true) (hv : b.valid = true) {n : Nat}
    (hn : n < b.len.toNat) : (b.get? n).isSome = true := by
  rcases Buffer.wf_iff.mp hwf with ⟨_, hl⟩ | rfl
  · simp [Buffer.get?_of_valid hv hn, hl, hn]
  · simp at hv

theorem Buffer.produced_wf {α : Type} {len : Word} {d : List α} (h : d.length = len.toNat) :
    (Buffer.produced len d).wf = true := by
  simp [Buffer.wf, h]

theorem Buffer.released_wf {α : Type} : (Buffer.released : Buffer α).wf = true := by
  simp [Buffer.wf]

/-! ### Release (R37) -/

/-- The release of all four is the four releases one after another. -/
theorem releaseAll_eq (s : State) : releaseAll s = releaseT1 (releaseT0 (releaseCf (releaseRaw s))) := rfl

/-- Releasing an already invalid buffer changes nothing (R37). -/
theorem releaseAll_releaseAll (s : State) : releaseAll (releaseAll s) = releaseAll s := rfl

/-- The release of the buffers and the clearing of the capture touch different registers. -/
theorem releaseAll_clearProbe (s : State) : releaseAll (clearProbe s) = clearProbe (releaseAll s) := rfl

/-- Error entry touches no buffer (R236). -/
theorem releaseAll_raise (e : ErrorKind) (st : Stage) (s : State) :
    releaseAll (raise e st s) = raise e st (releaseAll s) := by
  cases e <;> rfl

/-- In canonical form an invalid tensor's shape registers are zero, so releasing it changes nothing (R37). -/
theorem releaseT0_of_invalid {s : State} (h : s.t0.wf = true) (hv : s.t0.valid = false) (hs : s.t0Shape = .zero) :
    releaseT0 s = s := by
  rcases Buffer.wf_iff.mp h with ⟨hv', _⟩ | hr
  · simp [hv] at hv'
  · cases s; simp only at hr hs; subst hr; subst hs; rfl

/-! ### The canonical form of the four memories is kept by every operation on them -/

/-- `Memory.wf` as one fact per buffer. -/
theorem Memory.wf_iff {s : State} : Memory.wf s = true ↔
    s.raw.wf = true ∧ s.cf.wf = true ∧ s.t0.wf = true ∧ s.t1.wf = true
      ∧ (s.t0.valid = true ∨ s.t0Shape = .zero) ∧ (s.t1.valid = true ∨ s.t1Shape = .zero) := by
  simp [Memory.wf, and_assoc]

theorem Memory.wf_reset : Memory.wf State.reset = true := rfl

theorem Memory.wf_releaseRaw {s : State} (h : Memory.wf s = true) : Memory.wf (releaseRaw s) = true := by
  simp_all [Memory.wf_iff, Buffer.released_wf]

theorem Memory.wf_releaseCf {s : State} (h : Memory.wf s = true) : Memory.wf (releaseCf s) = true := by
  simp_all [Memory.wf_iff, Buffer.released_wf]

theorem Memory.wf_releaseT0 {s : State} (h : Memory.wf s = true) : Memory.wf (releaseT0 s) = true := by
  simp_all [Memory.wf_iff, Buffer.released_wf]

theorem Memory.wf_releaseT1 {s : State} (h : Memory.wf s = true) : Memory.wf (releaseT1 s) = true := by
  simp_all [Memory.wf_iff, Buffer.released_wf]

theorem Memory.wf_releaseAll (s : State) : Memory.wf (releaseAll s) = true := rfl

/-- Writing a whole RAW buffer keeps the canonical form (R180 steps 5 and 6). -/
theorem Memory.wf_produceRaw {s : State} {len : Word} {d : List Sample} (h : Memory.wf s = true)
    (hd : d.length = len.toNat) : Memory.wf { s with raw := .produced len d } = true := by
  simp_all [Memory.wf_iff, Buffer.produced_wf]

/-- Writing a whole CF buffer keeps the canonical form (R121 steps 5 and 6). -/
theorem Memory.wf_produceCf {s : State} {len : Word} {d : List ComplexSample} (h : Memory.wf s = true)
    (hd : d.length = len.toNat) : Memory.wf { s with cf := .produced len d } = true := by
  simp_all [Memory.wf_iff, Buffer.produced_wf]

/-- Writing a whole T0 buffer with its shape keeps the canonical form (R140 steps 5 and 6). -/
theorem Memory.wf_produceT0 {s : State} {len : Word} {d : List ComplexSample} {S : Shape} (h : Memory.wf s = true)
    (hd : d.length = len.toNat) : Memory.wf { s with t0 := .produced len d, t0Shape := S } = true := by
  simp_all [Memory.wf_iff, Buffer.produced_wf]

/-- Writing a whole T1 buffer with its shape keeps the canonical form (R160 steps 5 and 6). -/
theorem Memory.wf_produceT1 {s : State} {len : Word} {d : List ComplexSample} {S : Shape} (h : Memory.wf s = true)
    (hd : d.length = len.toNat) : Memory.wf { s with t1 := .produced len d, t1Shape := S } = true := by
  simp_all [Memory.wf_iff, Buffer.produced_wf]

theorem Memory.wf_clearProbe {s : State} (h : Memory.wf s = true) : Memory.wf (clearProbe s) = true := h

theorem Memory.wf_raise {e : ErrorKind} {st : Stage} {s : State} (h : Memory.wf s = true) :
    Memory.wf (raise e st s) = true := h

theorem Memory.wf_returnFromError {s : State} (h : Memory.wf s = true) : Memory.wf (returnFromError s) = true := h

theorem Memory.wf_writeReg {s : State} {r : Reg} {v : Word} (h : Memory.wf s = true) :
    Memory.wf (s.writeReg r v) = true := by
  cases r <;> exact h

theorem Memory.wf_takeInput {s : State} {rest : List Input} (h : Memory.wf s = true) :
    Memory.wf (takeInput rest s) = true := h

theorem Memory.wf_resetEvent (s : State) : Memory.wf (resetEvent s) = true := rfl

/-! ### Samples (R67) -/

theorem samplesOf_length : ∀ {n : Nat} {b : List Byte}, b.length = 2 * n → (samplesOf b).length = n
  | 0, [], _ => rfl
  | n + 1, lo :: hi :: rest, h => by
    simp only [samplesOf, List.length_cons]
    have := samplesOf_length (n := n) (b := rest) (by simp at h; omega)
    omega
  | _ + 1, [], h => by simp at h
  | _ + 1, [_], h => by simp at h; omega

/-! ### The frame source (R71) -/

/-- Everything `SrcRead` can answer, and the environment after it. -/
theorem srcRead_cases (n : Nat) (s : State) :
    (n = 0 ∧ srcRead n s = (.bytes [], s)) ∨
    (0 < n ∧ s.sourceReadable = false ∧ srcRead n s = (.unavailable, s.afterRequest)) ∨
    (0 < n ∧ s.sourceReadable = true ∧ n ≤ s.rem.length ∧
      srcRead n s = (.bytes (s.rem.take n), { s.afterRequest with rem := s.rem.drop n })) ∨
    (0 < n ∧ s.sourceReadable = true ∧ s.rem.length < n ∧
      srcRead n s = (.short, { s.afterRequest with rem := [] })) := by
  unfold srcRead
  by_cases h0 : n = 0
  · exact .inl ⟨h0, by simp [h0]⟩
  · have hpos : 0 < n := Nat.pos_of_ne_zero h0
    cases hr : s.sourceReadable
    · exact .inr (.inl ⟨hpos, rfl, by simp [h0]⟩)
    · by_cases hl : n ≤ s.rem.length
      · exact .inr (.inr (.inl ⟨hpos, rfl, hl, by simp [h0, hl]⟩))
      · exact .inr (.inr (.inr ⟨hpos, rfl, by omega, by simp [h0, hl]⟩))

/-- The bytes delivered are as many as were asked for. -/
theorem srcRead_bytes_length {n : Nat} {s s' : State} {b : List Byte} (h : srcRead n s = (.bytes b, s')) :
    b.length = n := by
  rcases srcRead_cases n s with ⟨h0, e⟩ | ⟨_, _, e⟩ | ⟨_, _, hl, e⟩ | ⟨_, _, _, e⟩ <;> rw [e] at h <;> cases h
  · simp [h0]
  · simp; omega

/-- `SrcRead` touches the environment's fields alone. -/
theorem srcRead_env {n : Nat} {s t : State} {a : SrcAnswer} (h : srcRead n s = (a, t)) :
    t = { s with rem := t.rem, srcPlan := t.srcPlan, free := t.free } := by
  have ha : s.afterRequest = { s with srcPlan := s.afterRequest.srcPlan, free := s.afterRequest.free } := by
    unfold State.afterRequest; split <;> rfl
  rcases srcRead_cases n s with ⟨_, e⟩ | ⟨_, _, e⟩ | ⟨_, _, _, e⟩ | ⟨_, _, _, e⟩ <;> rw [e] at h <;> cases h
  · rfl
  · exact ha ▸ rfl
  · rw [ha]
  · rw [ha]

/-! ### The steps (R121, R140, R160, R180) -/

/-- Everything the frame read step can do. -/
theorem frameReadStep_cases (s : State) :
    (s.rawCap < s.cfgF.toNat ∧ frameReadStep s = .raised .allocationFailure .load (clearProbe (releaseAll s))) ∨
    (s.cfgF.toNat ≤ s.rawCap ∧ ∃ s2, srcRead (2 * s.cfgF.toNat) (clearProbe (releaseAll s)) = (.unavailable, s2) ∧
      frameReadStep s = .raised .sourceUnavailable .load s2) ∨
    (s.cfgF.toNat ≤ s.rawCap ∧ ∃ s2, srcRead (2 * s.cfgF.toNat) (clearProbe (releaseAll s)) = (.short, s2) ∧
      frameReadStep s = .raised .shortRead .load s2) ∨
    (s.cfgF.toNat ≤ s.rawCap ∧ ∃ b s2, srcRead (2 * s.cfgF.toNat) (clearProbe (releaseAll s)) = (.bytes b, s2) ∧
      frameReadStep s =
        .done { s2 with raw := .produced s.cfgF (samplesOf b), frameIdx := s.frameIdx + 1 }) := by
  unfold frameReadStep
  by_cases hc : s.rawCap < s.cfgF.toNat
  · exact .inl ⟨hc, by simp [hc]⟩
  · right
    have hle : s.cfgF.toNat ≤ s.rawCap := by omega
    simp only [hc, if_false]
    cases hr : srcRead (2 * s.cfgF.toNat) (clearProbe (releaseAll s)) with
    | mk a s2 =>
      cases a with
      | unavailable => exact .inl ⟨hle, s2, rfl, rfl⟩
      | short => exact .inr (.inl ⟨hle, s2, rfl, rfl⟩)
      | bytes b => exact .inr (.inr ⟨hle, b, s2, rfl, rfl⟩)

/-- The frame read step succeeds exactly when the frame fits RAW and the source can deliver it (R71, R180). -/
theorem frameReadStep_done_iff {s : State} :
    (∃ u, frameReadStep s = .done u) ↔ s.cfgF.toNat ≤ s.rawCap ∧
      (s.cfgF.toNat = 0 ∨ (s.sourceReadable = true ∧ 2 * s.cfgF.toNat ≤ s.rem.length)) := by
  have hr : (clearProbe (releaseAll s)).sourceReadable = s.sourceReadable := rfl
  have hl : (clearProbe (releaseAll s)).rem = s.rem := rfl
  have hs := srcRead_cases (2 * s.cfgF.toNat) (clearProbe (releaseAll s))
  rw [hr, hl] at hs
  rcases frameReadStep_cases s with ⟨h, e⟩ | ⟨h, s2, hq, e⟩ | ⟨h, s2, hq, e⟩ | ⟨h, b, s2, hq, e⟩ <;> rw [e]
  · exact ⟨fun ⟨_, hu⟩ => (by cases hu), fun ⟨hle, _⟩ => absurd h (Nat.not_lt.mpr hle)⟩
  · refine ⟨fun ⟨_, hu⟩ => (by cases hu), fun ⟨_, hc⟩ => ?_⟩
    rcases hs with ⟨_, e'⟩ | ⟨hp, hf, e'⟩ | ⟨_, _, _, e'⟩ | ⟨_, _, _, e'⟩ <;> rw [e'] at hq <;> cases hq
    rcases hc with h0 | ⟨ht, _⟩
    · omega
    · rw [hf] at ht; cases ht
  · refine ⟨fun ⟨_, hu⟩ => (by cases hu), fun ⟨_, hc⟩ => ?_⟩
    rcases hs with ⟨_, e'⟩ | ⟨_, _, e'⟩ | ⟨_, _, _, e'⟩ | ⟨hp, _, hlt, e'⟩ <;> rw [e'] at hq <;> cases hq
    rcases hc with h0 | ⟨_, hge⟩ <;> omega
  · refine ⟨fun _ => ⟨h, ?_⟩, fun _ => ⟨_, rfl⟩⟩
    rcases hs with ⟨h0, _⟩ | ⟨_, _, e'⟩ | ⟨_, ht, hge, _⟩ | ⟨_, _, _, e'⟩
    · left; omega
    · rw [e'] at hq; cases hq
    · exact .inr ⟨ht, hge⟩
    · rw [e'] at hq; cases hq

/-- Everything the deinterleave step can do. -/
theorem deintStep_cases (s : State) :
    (s.raw.valid = false ∧ deintStep s = .raised .staleOperand .deint s) ∨
    (s.raw.valid = true ∧ s.raw.len.toNat % 4 ≠ 0 ∧ deintStep s = .raised .invalidFrameSize .deint (releaseCf s)) ∨
    (s.raw.valid = true ∧ s.raw.len.toNat % 4 = 0 ∧
      collect (deintElement s.raw) 0 (2 * (s.raw.len.toNat / 4)) = none ∧ deintStep s = .noValue) ∨
    (s.raw.valid = true ∧ s.raw.len.toNat % 4 = 0 ∧ ∃ xs,
      collect (deintElement s.raw) 0 (2 * (s.raw.len.toNat / 4)) = some xs ∧
      deintStep s =
        .done { s with cf := .produced (BitVec.ofNat 32 (2 * (s.raw.len.toNat / 4))) xs }) := by
  unfold deintStep
  cases hv : s.raw.valid
  · simp
  · by_cases h4 : s.raw.len.toNat % 4 = 0
    · cases hc : collect (deintElement s.raw) 0 (2 * (s.raw.len.toNat / 4)) <;> simp [h4, hc, deintStride, releaseCf]
    · simp [h4, deintStride]

/-- Everything the reshape step can do. -/
theorem reshapeStep_cases (s : State) :
    (s.cf.valid = false ∧ reshapeStep s = .raised .staleOperand .reshape s) ∨
    (s.cf.valid = true ∧ (geometryProduct s = 0 ∨ s.cf.len.toNat % geometryProduct s ≠ 0) ∧
      reshapeStep s = .raised .shapeMismatch .reshape (releaseT0 s)) ∨
    (s.cf.valid = true ∧ geometryProduct s ≠ 0 ∧ s.cf.len.toNat % geometryProduct s = 0 ∧
      collect s.cf.get? 0 s.cf.len.toNat = none ∧ reshapeStep s = .noValue) ∨
    (s.cf.valid = true ∧ geometryProduct s ≠ 0 ∧ s.cf.len.toNat % geometryProduct s = 0 ∧ ∃ xs,
      collect s.cf.get? 0 s.cf.len.toNat = some xs ∧
      reshapeStep s = .done { s with
        t0 := .produced s.cf.len xs
        t0Shape := { n0 := s.cfgN0, n1 := s.cfgN1, n2 := s.cfgN2,
                     n3 := BitVec.ofNat 32 (s.cf.len.toNat / geometryProduct s) } }) := by
  unfold reshapeStep
  cases hv : s.cf.valid
  · simp
  · by_cases hP : geometryProduct s = 0
    · simp [hP]
    · by_cases hm : s.cf.len.toNat % geometryProduct s = 0
      · cases hc : collect s.cf.get? 0 s.cf.len.toNat <;> simp [hP, hm, hc, releaseT0]
      · simp [hP, hm]

/-- Everything the permute step can do. -/
theorem permuteStep_cases (s : State) :
    (s.t0.valid = false ∧ permuteStep s = .raised .staleOperand .permute s) ∨
    (s.t0.valid = true ∧ s.t0Shape.card ≠ s.t0.len.toNat ∧
      permuteStep s = .raised .shapeMismatch .permute (releaseT0 (releaseT1 s))) ∨
    (s.t0.valid = true ∧ s.t0Shape.card = s.t0.len.toNat ∧
      collect (fun m => s.t0.get? (permSource s.t0Shape m)) 0 s.t0.len.toNat = none ∧ permuteStep s = .noValue) ∨
    (s.t0.valid = true ∧ s.t0Shape.card = s.t0.len.toNat ∧ ∃ xs,
      collect (fun m => s.t0.get? (permSource s.t0Shape m)) 0 s.t0.len.toNat = some xs ∧
      permuteStep s = .done { s with
        t1 := .produced s.t0.len xs, t1Shape := s.t0Shape.permuted, t0 := .released, t0Shape := .zero }) := by
  unfold permuteStep
  cases hv : s.t0.valid
  · simp
  · by_cases hc : s.t0Shape.card = s.t0.len.toNat
    · cases hx : collect (fun m => s.t0.get? (permSource s.t0Shape m)) 0 s.t0.len.toNat <;>
        simp [hc, hx, releaseT0, releaseT1]
    · simp [hc]

/-- Everything PROBE can do. -/
theorem execProbe_cases (s : State) (hm : s.mode = .ready) :
    (((probeBuffer s).valid = false ∨
        (probeShape s).inRange s.pidx0.toNat s.pidx1.toNat s.pidx2.toNat s.pidx3.toNat = false) ∧
      execProbe s = .next (clearProbe s)) ∨
    ((probeBuffer s).valid = true ∧
      (probeShape s).inRange s.pidx0.toNat s.pidx1.toNat s.pidx2.toNat s.pidx3.toNat = true ∧
      (((probeBuffer s).get? (probeIndex s) = none ∧ execProbe s = .fault .elementNoValue) ∨
       ∃ x, (probeBuffer s).get? (probeIndex s) = some x ∧
        execProbe s = .next { s with probeRe := x.re, probeIm := x.im, probeV := true })) := by
  unfold execProbe whenReady
  simp only [hm]
  cases hv : (probeBuffer s).valid
  · simp
  · cases hr : (probeShape s).inRange s.pidx0.toNat s.pidx1.toNat s.pidx2.toNat s.pidx3.toNat
    · simp
    · cases hx : (probeBuffer s).get? (probeIndex s) <;> simp

/-! ### Command acceptance and the ends of a command (R181, R232, R236) -/

theorem whenReady_of_ready {s : State} {o : Host.Outcome State Fault Refusal} (h : s.mode = .ready) :
    whenReady s o = o := by
  simp [whenReady, h]

theorem whenReady_of_not_ready {s : State} {o : Host.Outcome State Fault Refusal} (h : s.mode ≠ .ready) :
    whenReady s o = .next s := by
  unfold whenReady
  split
  · exact absurd ‹_› h
  · rfl
  · rfl

@[simp] theorem StepEnd.andThen_done (s : State) (f : State → StepEnd) : (StepEnd.done s).andThen f = f s := rfl
@[simp] theorem StepEnd.andThen_raised (e : ErrorKind) (st : Stage) (s : State) (f : State → StepEnd) :
    (StepEnd.raised e st s).andThen f = .raised e st s := rfl
@[simp] theorem StepEnd.andThen_noValue (f : State → StepEnd) : StepEnd.noValue.andThen f = .noValue := rfl
@[simp] theorem StepEnd.finish_done (s : State) : (StepEnd.done s).finish = .next s := rfl
@[simp] theorem StepEnd.finish_raised (e : ErrorKind) (st : Stage) (s : State) :
    (StepEnd.raised e st s).finish = .next (raise e st s) := rfl
@[simp] theorem StepEnd.finish_noValue : StepEnd.noValue.finish = .fault .elementNoValue := rfl
@[simp] theorem StepEnd.finishFrame_done (s : State) :
    (StepEnd.done s).finishFrame = .next (releaseCf (releaseRaw s)) := rfl
@[simp] theorem StepEnd.finishFrame_raised (e : ErrorKind) (st : Stage) (s : State) :
    (StepEnd.raised e st s).finishFrame = .next (raise e st (releaseAll s)) := rfl
@[simp] theorem StepEnd.finishFrame_noValue : StepEnd.noValue.finishFrame = .fault .elementNoValue := rfl

/-! ### The step -/

theorem step_nil {s : State} (h : s.inputs = []) : step s = .next s := by
  simp [step, h]

theorem step_cons {s : State} {x : Input} {rest : List Input} (h : s.inputs = x :: rest) :
    step s = serve x (takeInput rest s) := by
  simp [step, h]

/-- The port finds every register at its address (R45, R62). -/
theorem target_word (r : Reg) : target r.word = .reg r := by
  cases r <;> decide

/-- The address map on a word of a window region (R62): the region number selects the window, the low 26 bits the word. -/
theorem target_window {a : WordIndex} {r w : Nat} (hw : w < 2 ^ 26) (ha : a.toNat = r * 2 ^ 26 + w) :
    (r = 1 → target a = .window .raw w) ∧ (r = 2 → target a = .window .cf w)
      ∧ (r = 3 → target a = .window .t0 w) ∧ (r = 4 → target a = .window .t1 w) := by
  have hlt := a.isLt
  have h1 : (a.extractLsb' 26 4).toNat = r := by
    rw [BitVec.extractLsb'_toNat, Nat.shiftRight_eq_div_pow]; omega
  have h2 : (a.extractLsb' 0 26).toNat = w := by
    rw [BitVec.extractLsb'_toNat, Nat.shiftRight_zero]; omega
  unfold target
  rw [h1, h2]
  refine ⟨?_, ?_, ?_, ?_⟩ <;> (rintro rfl; rfl)

/-- Word `w` of region 1 is word `w` of the RAW window. -/
theorem target_rawWindow {w : Nat} (hw : w < 2 ^ 26) :
    target (BitVec.ofNat 30 (0x04000000 + w)) = .window .raw w :=
  (target_window (r := 1) hw (by rw [BitVec.toNat_ofNat, Nat.mod_eq_of_lt] <;> omega)).1 rfl

/-- Word `w` of region 2 is word `w` of the CF window. -/
theorem target_cfWindow {w : Nat} (hw : w < 2 ^ 26) :
    target (BitVec.ofNat 30 (0x08000000 + w)) = .window .cf w :=
  (target_window (r := 2) hw (by rw [BitVec.toNat_ofNat, Nat.mod_eq_of_lt] <;> omega)).2.1 rfl

/-- Word `w` of region 3 is word `w` of the T0 window. -/
theorem target_t0Window {w : Nat} (hw : w < 2 ^ 26) :
    target (BitVec.ofNat 30 (0x0C000000 + w)) = .window .t0 w :=
  (target_window (r := 3) hw (by rw [BitVec.toNat_ofNat, Nat.mod_eq_of_lt] <;> omega)).2.2.1 rfl

/-- Word `w` of region 4 is word `w` of the T1 window. -/
theorem target_t1Window {w : Nat} (hw : w < 2 ^ 26) :
    target (BitVec.ofNat 30 (0x10000000 + w)) = .window .t1 w :=
  (target_window (r := 4) hw (by rw [BitVec.toNat_ofNat, Nat.mod_eq_of_lt] <;> omega)).2.2.2 rfl

/-- The unassigned addresses of R66 are no register and no window. -/
theorem target_unassigned {a : WordIndex}
    (h : 4 * a.toNat = 0x18 ∨ 4 * a.toNat = 0x1C ∨ (0x34 ≤ 4 * a.toNat ∧ 4 * a.toNat ≤ 0x3C)
      ∨ (0x8C ≤ 4 * a.toNat ∧ 4 * a.toNat ≤ 0x0FFFFFFC) ∨ 0x50000000 ≤ 4 * a.toNat) : target a = .unassigned := by
  unfold target
  have hR : (a.extractLsb' 26 4).toNat = a.toNat / 2 ^ 26 := by
    rw [BitVec.extractLsb'_toNat, Nat.shiftRight_eq_div_pow]; have := a.isLt; omega
  rw [hR]
  have ha := a.isLt
  have hb : (byteAddr a).toNat = 4 * a.toNat := by
    unfold byteAddr; rw [BitVec.toNat_append]; simp [Nat.shiftLeft_eq]; omega
  have hf : a.toNat / 2 ^ 26 = 0 → Reg.all.find? (fun r => r.addr == byteAddr a) = none := by
    intro h0
    rw [List.find?_eq_none]
    intro r _ hr
    have e : r.addr = byteAddr a := by simpa using hr
    have : r.addr.toNat = 4 * a.toNat := by rw [e, hb]
    cases r <;> simp [Reg.addr] at this <;> omega
  have hcase : a.toNat / 2 ^ 26 = 0 ∨ 5 ≤ a.toNat / 2 ^ 26 := by omega
  rcases hcase with h0 | h5
  · rw [h0]; simp only [hf h0]
  · split <;> first | omega | rfl

/-- A read of an invalid buffer, or at or above its length, gives no value (R38). -/
theorem Buffer.get?_eq_none {α : Type} {b : Buffer α} {n : Nat} (h : b.valid = false ∨ b.len.toNat ≤ n) :
    b.get? n = none := by
  unfold Buffer.get?
  rcases h with h | h
  · simp [h]
  · rw [if_neg]; simp only [Bool.and_eq_true, decide_eq_true_eq]; omega

/-! ### The meanings in each MODE (R232) -/

/-- Outside READY every command but ERRCLR is discarded. -/
theorem exec_of_not_ready {s : State} {i : Instr} (h : s.mode ≠ .ready) (hi : i ≠ .errclr) : exec i s = .next s := by
  cases i <;> first | exact absurd rfl hi | exact whenReady_of_not_ready h

/-- In HALTED every command is discarded, ERRCLR too. -/
theorem exec_of_halted {s : State} {i : Instr} (h : s.mode = .halted) : exec i s = .next s := by
  cases i <;> simp [exec, execNop, execLoad, execDeint, execReshape, execPermute, execFrame, execProbe, execErrclr,
    whenReady, h]

theorem exec_deint_of_ready {s : State} (h : s.mode = .ready) : exec .deint s = (deintStep s).finish :=
  whenReady_of_ready h

theorem exec_reshape_of_ready {s : State} (h : s.mode = .ready) : exec .reshape s = (reshapeStep s).finish :=
  whenReady_of_ready h

theorem exec_permute_of_ready {s : State} (h : s.mode = .ready) : exec .permute s = (permuteStep s).finish :=
  whenReady_of_ready h

/-- LOAD in READY below the frame limit is the frame read step. -/
theorem exec_load_of_ready {s : State} (h : s.mode = .ready) (hd : s.done = false) :
    exec .load s = (frameReadStep s).finish := by
  simp [exec, execLoad, whenReady, h, hd]

/-- FRAME in READY below the frame limit is its four steps. -/
theorem exec_frame_of_ready {s : State} (h : s.mode = .ready) (hd : s.done = false) :
    exec .frame s = (frameSteps s).finishFrame := by
  simp [exec, execFrame, whenReady, h, hd]

/-- The port's word 0, and no other, is CMD (R45). -/
theorem target_eq_cmd {a : WordIndex} (h : target a = .reg .cmd) : a = 0 := by
  unfold target at h
  split at h <;> try cases h
  split at h <;> cases h
  rename_i hf
  have hb : (byteAddr a).toNat = 4 * a.toNat := by
    unfold byteAddr; rw [BitVec.toNat_append]; simp [Nat.shiftLeft_eq]; omega
  have e := List.find?_some hf
  simp [Reg.addr] at e
  rw [← e] at hb
  exact BitVec.eq_of_toNat_eq (by simp at hb ⊢; omega)

/-- Everything a step that takes an event can do: reset; a read, which changes only the reply and the count of free values; a write
of a register; a write that is ignored; a command; an illegal word. -/
theorem step_cases {s t : State} {x : Input} {rest : List Input} (hx : s.inputs = x :: rest) (h : step s = .next t) :
    (x = .reset ∧ t = resetEvent (takeInput rest s)) ∨
    (∃ a r f, x = .memRead a ∧ t = { takeInput rest s with reply := r, free := f }) ∨
    (∃ a v r, x = .memWrite a v ∧ r ≠ .cmd ∧ t = (takeInput rest s).writeReg r v) ∨
    (∃ a v, x = .memWrite a v ∧ t = takeInput rest s) ∨
    (∃ v i, x = .memWrite 0 v ∧ decode v = .ok i ∧ exec i (takeInput rest s) = .next t) ∨
    (∃ v e, x = .memWrite 0 v ∧ decode v = .error e ∧
      t = if s.mode = .ready then raise .illegalCommand .decode (takeInput rest s) else takeInput rest s) := by
  rw [step_cons hx] at h
  cases x with
  | reset => cases h; exact .inl ⟨rfl, rfl⟩
  | memRead a =>
    refine .inr (.inl ?_)
    simp only [serve, serveRead] at h
    split at h
    · cases h; exact ⟨a, _, _, rfl, rfl⟩
    · split at h <;> cases h; exact ⟨a, _, _, rfl, rfl⟩
    · cases h; exact ⟨a, _, _, rfl, rfl⟩
  | memWrite a v =>
    right; right
    simp only [serve, serveWrite] at h
    split at h
    · rename_i r hr
      split at h
      · rename_i hc
        subst hc
        obtain rfl := target_eq_cmd hr
        unfold serveCommand at h
        split at h
        · rename_i i hi; exact .inr (.inr (.inl ⟨v, i, rfl, hi, h⟩))
        · rename_i e he
          refine .inr (.inr (.inr ⟨v, e, rfl, he, ?_⟩))
          by_cases hm : s.mode = .ready
          · rw [whenReady_of_ready (s := takeInput rest s) hm] at h; cases h; simp [hm]
          · rw [whenReady_of_not_ready (s := takeInput rest s) hm] at h; cases h; simp [hm]
      · rename_i hc; cases h; exact .inl ⟨a, v, r, rfl, hc, rfl⟩
    · cases h; exact .inr (.inl ⟨a, v, rfl, rfl⟩)
    · cases h; exact .inr (.inl ⟨a, v, rfl, rfl⟩)

end Sys2Proof.Machine
end

