-- ==== Sys2Proof/Laws/PerInstr.lean ====
section
/-! SUPPORT. Statements about every constructor of `Instr` as syntax, one lemma per constructor. -/

namespace Sys2Proof.Laws

/-- Format C (R90): field ZERO of the command's word is zero and its opcode is assigned; the word passes the checks of
WellFormed and so does the term. -/
def FormatC.Statement (i : Instr) : Prop :=
  (encode i).extractLsb' 8 24 = 0#24 ∧ (encode i).extractLsb' 0 8 = opcode i ∧ CommandWord.wf (encode i) = true
    ∧ i.wf = true

theorem FormatC.nop : FormatC.Statement .nop := by unfold FormatC.Statement; decide
theorem FormatC.load : FormatC.Statement .load := by unfold FormatC.Statement; decide
theorem FormatC.deint : FormatC.Statement .deint := by unfold FormatC.Statement; decide
theorem FormatC.reshape : FormatC.Statement .reshape := by unfold FormatC.Statement; decide
theorem FormatC.permute : FormatC.Statement .permute := by unfold FormatC.Statement; decide
theorem FormatC.frame : FormatC.Statement .frame := by unfold FormatC.Statement; decide
theorem FormatC.probe : FormatC.Statement .probe := by unfold FormatC.Statement; decide
theorem FormatC.errclr : FormatC.Statement .errclr := by unfold FormatC.Statement; decide

end Sys2Proof.Laws
end

