-- ==== Sys2Proof/Tests/Slice0.lean ====
section
/-! SUPPORT. The model's own tests. Expected values are those of spec/95_test_vectors.md (cited at each test) or of the rule cited, worked
out by hand. Then one witness per statement with hypotheses, and per clause, at the boundary values of its range. -/

namespace Sys2Proof.Tests

open Sys2Proof.Machine

/-! ### Helpers -/

/-- The outcome is this next state. -/
def ranTo (o : Host.Outcome State Fault Refusal) (t : State) : Bool :=
  match o with
  | .next s => decide (s = t)
  | .fault _ => false
  | .refused _ => false

theorem ranTo_eq {o : Host.Outcome State Fault Refusal} {t : State} (h : ranTo o t = true) : o = .next t := by
  cases o <;> simp_all [ranTo]

/-- The outcome is a next state with this property. -/
def ranWith (o : Host.Outcome State Fault Refusal) (p : State → Bool) : Bool :=
  match o with
  | .next s => p s
  | .fault _ => false
  | .refused _ => false

/-- The error report. -/
def errIs (c st f : Word) (t : State) : Bool := t.errCode == c && t.errStage == st && t.errFrame == f

/-- The element whose components convert from two samples. -/
def cpx (x y : Int) : ComplexSample := { re := f32OfI16 (BitVec.ofInt 16 x), im := f32OfI16 (BitVec.ofInt 16 y) }

/-- Program P1 (95_test_vectors.md) after its CFG: 16 bytes in the source. -/
def p1 : State :=
  { State.reset with
    cfgF := 8, cfgN0 := 2, cfgN1 := 2, cfgN2 := 1, cfgTotal := 1, rawCap := 8, srcPlan := [true],
    rem := [0x0A, 0x00, 0x14, 0x00, 0x1E, 0x00, 0x28, 0x00, 0x0B, 0x00, 0x15, 0x00, 0x1F, 0x00, 0x29, 0x00] }

/-- P1 after LOAD. -/
def p1Load : State :=
  { p1 with
    raw := { valid := true, len := 8, data := [10, 20, 30, 40, 11, 21, 31, 41] }, frameIdx := 1, rem := [], srcPlan := [] }

/-- P1 after DEINT: the patterns of E1. -/
def p1Deint : State :=
  { p1Load with
    cf := { valid := true, len := 4, data :=
      [{ re := 0x41200000, im := 0x41F00000 }, { re := 0x41A00000, im := 0x42200000 },
       { re := 0x41300000, im := 0x41F80000 }, { re := 0x41A80000, im := 0x42240000 }] } }

/-- P1 after RESHAPE. -/
def p1Reshape : State :=
  { p1Deint with
    t0 := p1Deint.cf, t0Shape := { n0 := 2, n1 := 2, n2 := 1, n3 := 1 } }

/-- P1 after PERMUTE. -/
def p1Permute : State :=
  { p1Deint with
    t1 := { valid := true, len := 4, data :=
      [{ re := 0x41200000, im := 0x41F00000 }, { re := 0x41300000, im := 0x41F80000 },
       { re := 0x41A00000, im := 0x42200000 }, { re := 0x41A80000, im := 0x42240000 }] }
    t1Shape := { n0 := 2, n1 := 1, n2 := 2, n3 := 1 } }

/-- A state with one pending event. -/
def pending (x : Input) (s : State) : State := { s with inputs := [x] }

/-- A state in ERROR with the report of an InvalidFrameSize of frame 0. -/
def inError : State := { p1Load with mode := .error, errCode := 1, errStage := 2, errFrame := 0 }

/-- A state in HALTED with the report of a ShortRead. -/
def inHalted : State := { p1 with mode := .halted, errCode := 3, errStage := 1, errFrame := 0 }

/-! ### Decoding: the words of R91 and R92 written out bit by bit, field ZERO (24 bits) then OP (8 bits) -/

theorem test_decode_nop : decode 0b000000000000000000000000_00000000#32 = .ok .nop := by decide
theorem test_decode_load : decode 0b000000000000000000000000_00000001#32 = .ok .load := by decide
theorem test_decode_deint : decode 0b000000000000000000000000_00000010#32 = .ok .deint := by decide
theorem test_decode_reshape : decode 0b000000000000000000000000_00000011#32 = .ok .reshape := by decide
theorem test_decode_permute : decode 0b000000000000000000000000_00000100#32 = .ok .permute := by decide
theorem test_decode_frame : decode 0b000000000000000000000000_00000101#32 = .ok .frame := by decide
theorem test_decode_probe : decode 0b000000000000000000000000_00000110#32 = .ok .probe := by decide
theorem test_decode_errclr : decode 0b000000000000000000000000_00000111#32 = .ok .errclr := by decide
theorem test_decode_opcode8 : decode 0b000000000000000000000000_00001000#32 = .error .opcodeUnassigned := by decide
theorem test_decode_opcodeFF : decode 0b000000000000000000000000_11111111#32 = .error .opcodeUnassigned := by decide
theorem test_decode_upper_low : decode 0b000000000000000000000001_00000101#32 = .error .zeroFieldNotZero := by decide
theorem test_decode_upper_top : decode 0b100000000000000000000000_00000001#32 = .error .zeroFieldNotZero := by decide
theorem test_decodeTableWord : decodeTableWord 32 6 = some .probe ∧ decodeTableWord 32 8 = none := by decide

/-! ### WellFormed smoke tests: each check refuses an ill-formed term -/

theorem test_wf_instr : Instr.wf .frame = true := by decide
theorem test_wf_zeroField : CommandWord.zeroFieldOk 0x00000105#32 = false := by decide
theorem test_wf_opcode : CommandWord.opcodeOk 0x00000008#32 = false := by decide
theorem test_wf_word : CommandWord.wf 0xFFFFFFFF#32 = false ∧ CommandWord.wf 0x00000007#32 = true := by decide
theorem test_wf_launch : Launch.wf (2 ^ 26 + 1) = false ∧ Launch.wf (2 ^ 26) = true := by decide

/-! ### Conversion and samples (95_test_vectors.md 2.1, 2.2) -/

theorem test_f32_positive : f32OfI16 3 = 0x40400000#32 ∧ f32OfI16 255 = 0x437F0000#32 ∧ f32OfI16 32767 = 0x46FFFE00#32 := by
  decide
theorem test_f32_negative : f32OfI16 (-735) = 0xC437C000#32 ∧ f32OfI16 (-32767) = 0xC6FFFE00#32
    ∧ f32OfI16 (-32768) = 0xC7000000#32 := by decide
theorem test_i16 : samplesOf [0x00, 0x01, 0x00, 0x80, 0x01, 0xFF] = [256, -32768, -255] := by decide

/-! ### The commands (95_test_vectors.md, program P1 and 2.2 to 2.9) -/

theorem test_load : ranTo (exec .load p1) p1Load = true := by decide
theorem test_load_short : ranWith (exec .load { p1 with rem := [1, 2, 3, 4, 5, 6] })
    (fun t => errIs 3 1 0 t && t.status == 0x200 && t.rem == [] && t.frameIdx == 0) = true := by decide
theorem test_deint : ranTo (exec .deint p1Load) p1Deint = true := by decide
theorem test_deint_size : ranWith (exec .deint { p1Load with raw := .produced 6 [1, 2, 3, 4, 5, 6] })
    (fun t => errIs 1 2 0 t && !t.cf.valid && t.raw.valid && t.mode == .error) = true := by decide
theorem test_reshape : ranTo (exec .reshape p1Deint) p1Reshape = true := by decide
theorem test_reshape_no_wrap : ranWith (exec .reshape { p1Deint with cfgN0 := 65536, cfgN1 := 65536 })
    (fun t => errIs 2 3 0 t && !t.t0.valid && t.cf.valid) = true := by decide
theorem test_permute : ranTo (exec .permute p1Reshape) p1Permute = true := by decide
theorem test_permute_runs_of_two : ranWith (exec .permute { p1Load with
      t0 := .produced 8 [cpx 0 0, cpx 1 0, cpx 2 0, cpx 3 0, cpx 4 0, cpx 5 0, cpx 6 0, cpx 7 0]
      t0Shape := { n0 := 2, n1 := 2, n2 := 1, n3 := 2 } })
    (fun t => t.t1.data == [cpx 0 0, cpx 1 0, cpx 4 0, cpx 5 0, cpx 2 0, cpx 3 0, cpx 6 0, cpx 7 0]
      && t.t1Shape == { n0 := 2, n1 := 1, n2 := 2, n3 := 2 } && !t.t0.valid) = true := by decide
theorem test_frame : ranWith (exec .frame p1)
    (fun t => t.t1 == p1Permute.t1 && t.t1Shape == p1Permute.t1Shape && t.status == 0x28 && t.rem == []) = true := by decide
theorem test_frame_order_of_checks : ranWith (exec .frame { p1 with cfgF := 6, cfgN0 := 0 })
    (fun t => errIs 1 2 0 t && t.frameIdx == 1 && !t.raw.valid && t.rem.length == 4) = true := by decide
theorem test_probe : ranWith (exec .probe { p1Permute with pidx0 := 1, pidx2 := 1, probeSel := 2 })
    (fun t => t.probeRe == 0x41A80000 && t.probeIm == 0x42240000 && t.probeV) = true := by decide
theorem test_probe_out_of_range : ranWith (exec .probe { p1Permute with pidx0 := 2, probeRe := 1, probeV := true })
    (fun t => t.probeRe == 0 && t.probeIm == 0 && !t.probeV) = true := by decide
theorem test_errclr : ranTo (exec .errclr inError) p1Load = true := by decide
theorem test_errclr_halted : ranTo (exec .errclr inHalted) inHalted = true := by decide
theorem test_nop : ranTo (exec .nop inError) inError = true := by decide

/-! ### The port and the step (95_test_vectors.md 2.7, 2.8) -/

theorem test_illegal : ranWith (step (pending (.memWrite 0 0x105) p1Permute))
    (fun t => errIs 7 0 1 t && t.status == 0x12B && t.t1 == p1Permute.t1) = true := by decide
theorem test_status_reset : State.reset.status = 0x20#32 := by decide
theorem test_read_raw_window : ranWith (step (pending (.memRead (BitVec.ofNat 30 0x4000001))
      { p1Load with raw := .produced 2 [10, -2] })) (fun t => t.reply == some 0xFFFFFFFE) = true := by decide
theorem test_read_cf_window : ranWith (step (pending (.memRead (BitVec.ofNat 30 0x8000003)) p1Deint))
    (fun t => t.reply == some 0x42200000) = true := by decide
theorem test_write_read_only : ranTo (step (pending (.memWrite (BitVec.ofNat 30 (0x04C / 4)) 5) p1)) p1 = true := by decide
theorem test_withFetchWord : ranTo (step (p1.withFetchWord 32 1)) p1Load = true := by decide

/-! ### The invariants hold where P1 passes (R42) -/

theorem p1Load_invariants : Invariants p1Load where
  memory := by decide
  rawFits := by decide
  cfFromRaw := by decide
  t0Fits := by decide
  t1Fits := by decide
  frameCounted := by decide
  readyIffNoError := by decide
  noReportWithoutError := by decide
  errFrameBound := by decide
  capBound := by decide
  modeOfError := .inl (by decide)
  stageBound := by decide
  noCapture := by decide

theorem p1Reshape_invariants : Invariants p1Reshape where
  memory := by decide
  rawFits := by decide
  cfFromRaw := by decide
  t0Fits := by decide
  t1Fits := by decide
  frameCounted := by decide
  readyIffNoError := by decide
  noReportWithoutError := by decide
  errFrameBound := by decide
  capBound := by decide
  modeOfError := .inl (by decide)
  stageBound := by decide
  noCapture := by decide

theorem p1Permute_invariants : Invariants p1Permute where
  memory := by decide
  rawFits := by decide
  cfFromRaw := by decide
  t0Fits := by decide
  t1Fits := by decide
  frameCounted := by decide
  readyIffNoError := by decide
  noReportWithoutError := by decide
  errFrameBound := by decide
  capBound := by decide
  modeOfError := .inl (by decide)
  stageBound := by decide
  noCapture := by decide

theorem p1Reshape_oneFrame : OneFrame p1Reshape where
  t0FromRaw := by decide
  t1FromRaw := fun h => absurd h (by decide)

theorem p1Permute_oneFrame : OneFrame p1Permute where
  t0FromRaw := by decide
  t1FromRaw := fun _ _ => ⟨by decide, by decide, { n0 := 2, n1 := 2, n2 := 1, n3 := 1 }, by decide, by decide⟩

/-! ### Witnesses: for each statement with hypotheses, a state and operands that meet them, clause by clause -/

/-- A state in which FRAME ran: only T1 is left. -/
def p1Frame : State :=
  { p1Permute with raw := .released, cf := .released }

/-- A state whose T0 disagrees with its shape: no run reaches it (R163). -/
def badT0 : State := { p1Reshape with t0Shape := { n0 := 2, n1 := 2, n2 := 1, n3 := 2 } }

theorem p1_runs_load : exec .load p1 = .next p1Load := ranTo_eq (by decide)
theorem p1_runs_deint : exec .deint p1Load = .next p1Deint := ranTo_eq (by decide)
theorem p1_runs_reshape : exec .reshape p1Deint = .next p1Reshape := ranTo_eq (by decide)
theorem p1_runs_permute : exec .permute p1Reshape = .next p1Permute := ranTo_eq (by decide)
theorem p1_runs_frame : exec .frame p1 = .next p1Frame := ranTo_eq (by decide)

theorem witness_DecodeInvertsEncode : decode 7#32 = .ok .errclr := by decide
theorem witness_IllegalWords_first_opcode :
    (pending (.memWrite 0 0x08#32) p1).inputs = [.memWrite 0 0x08#32] ∧ 0x08 ≤ ((0x08#32).extractLsb' 0 8).toNat
      ∧ (pending (.memWrite 0 0x08#32) p1).mode = .ready ∧ (pending (.memWrite 0 0x08#32) inError).mode ≠ .ready := by decide
theorem witness_IllegalWords_lowest_upper_bit :
    (pending (.memWrite 0 0x100#32) p1).inputs = [.memWrite 0 0x100#32] ∧ (0x100#32).extractLsb' 8 24 ≠ 0#24
      ∧ (pending (.memWrite 0 0x100#32) p1).mode = .ready := by decide
theorem witness_StepRunsTheDecodedCommand :
    (pending (.memWrite 0 1#32) p1).inputs = [.memWrite 0 1#32] ∧ decode 1#32 = .ok .load
      ∧ decodeTableWord 32 7 = some .errclr := by decide
theorem witness_StepWaitsWithoutInput : State.reset.inputs = [] := by decide
theorem witness_StepTakesOneInput : step (pending (.memWrite 0 1#32) p1) = .next p1Load := ranTo_eq (by decide)
theorem witness_ErrclrReturnsFromError : inError.mode = .error ∧ p1.mode = .ready ∧ inHalted.mode = .halted := by decide
theorem witness_DiscardedCommands :
    ((pending (.memWrite 0 8#32) inError).mode = .error ∧ (8#32) ≠ 0x00000007#32)
      ∧ (pending (.memWrite 0 7#32) inHalted).mode = .halted := by decide

/-- Discarded; invalid; each index at its limit; the last element, of T1 and of T0. -/
theorem witness_ProbeCaptures :
    inError.mode ≠ .ready
      ∧ (p1.mode = .ready ∧ p1.t1.valid = false ∧ p1.probeSel.getLsbD 0 = false)
      ∧ (p1Permute.t1Shape.n0.toNat ≤ { p1Permute with pidx0 := 2 }.pidx0.toNat)
      ∧ (p1Permute.t1Shape.n1.toNat ≤ { p1Permute with pidx1 := 1 }.pidx1.toNat)
      ∧ (p1Permute.t1Shape.n2.toNat ≤ { p1Permute with pidx2 := 2 }.pidx2.toNat)
      ∧ (p1Permute.t1Shape.n3.toNat ≤ { p1Permute with pidx3 := 1 }.pidx3.toNat) := by decide
theorem witness_ProbeCaptures_last :
    p1Permute.mode = .ready ∧ p1Permute.t1.valid = true ∧ p1Permute.t1.data.length = p1Permute.t1.len.toNat
      ∧ p1Permute.t1Shape.card = p1Permute.t1.len.toNat
      ∧ (1 < p1Permute.t1Shape.n0.toNat ∧ 0 < p1Permute.t1Shape.n1.toNat ∧ 1 < p1Permute.t1Shape.n2.toNat
        ∧ 0 < p1Permute.t1Shape.n3.toNat)
      ∧ p1Reshape.t0.valid = true ∧ p1Reshape.t0Shape.card = p1Reshape.t0.len.toNat ∧ 1 < p1Reshape.t0Shape.n1.toNat := by
  decide

theorem witness_SrcReadAnswers :
    { p1 with srcPlan := [false] }.sourceReadable = false ∧ (p1.sourceReadable = true ∧ 16 ≤ p1.rem.length)
      ∧ p1.rem.length < 17 := by decide

/-- Discarded; the DONE test at equality; one sample more than RAW_CAP; unreadable; one byte short; exactly enough; F = 0. -/
theorem witness_LoadReadsOneFrame :
    inHalted.mode ≠ .ready
      ∧ (p1Load.mode = .ready ∧ p1Load.cfgTotal.toNat ≤ p1Load.frameIdx.toNat)
      ∧ (p1.mode = .ready ∧ p1.frameIdx.toNat < p1.cfgTotal.toNat ∧ p1.rawCap < { p1 with cfgF := 9 }.cfgF.toNat)
      ∧ (p1.cfgF.toNat ≤ p1.rawCap ∧ 0 < p1.cfgF.toNat ∧ { p1 with srcPlan := [false] }.sourceReadable = false)
      ∧ { p1 with rem := p1.rem.drop 1 }.rem.length < 2 * p1.cfgF.toNat
      ∧ (p1.sourceReadable = true ∧ 2 * p1.cfgF.toNat ≤ p1.rem.length)
      ∧ { p1 with cfgF := 0 }.cfgF.toNat = 0 := by decide

theorem witness_DeintDeinterleaves :
    (p1.mode = .ready ∧ p1.raw.valid = false)
      ∧ ({ p1Load with raw := .produced 5 [1, 2, 3, 4, 5] }.raw.len.toNat % 4 ≠ 0 ∧ 1 ≤ p1Load.frameIdx.toNat)
      ∧ (p1Load.mode = .ready ∧ p1Load.raw.valid = true ∧ p1Load.raw.len.toNat % 4 = 0
        ∧ p1Load.raw.data.length = p1Load.raw.len.toNat)
      ∧ (Buffer.produced 0 ([] : List Sample)).len.toNat % 4 = 0 := by decide
theorem witness_Conversion :
    (1 : Sample) ≠ 0 ∧ (2 ^ 15 ≤ (-32768 : Sample).toInt.natAbs ∧ (-32768 : Sample).toInt.natAbs < 2 ^ 16)
      ∧ (2 ^ 0 ≤ (-1 : Sample).toInt.natAbs ∧ (-1 : Sample).toInt.natAbs < 2 ^ 1) := by decide
theorem witness_DeintLosesNoInformation :
    p1Load.mode = .ready ∧ p1Load.raw.valid = true ∧ p1Load.raw.wf = true ∧ p1Load.raw.len.toNat % 4 = 0
      ∧ 7 < p1Load.raw.len.toNat := by decide

/-- Discarded, stale, a zero product, no divisor, and success with a product that is the whole length. -/
theorem witness_ReshapeCopies :
    (p1Load.mode = .ready ∧ p1Load.cf.valid = false)
      ∧ (p1Deint.cf.valid = true ∧ geometryProduct { p1Deint with cfgN2 := 0 } = 0)
      ∧ p1Deint.cf.len.toNat % geometryProduct { p1Deint with cfgN0 := 3, cfgN1 := 1 } ≠ 0
      ∧ (p1Deint.mode = .ready ∧ p1Deint.cf.data.length = p1Deint.cf.len.toNat ∧ geometryProduct p1Deint = 4
        ∧ p1Deint.cf.len.toNat % geometryProduct p1Deint = 0) := by decide
theorem witness_ReshapeIndexMapping :
    p1Deint.mode = .ready ∧ p1Deint.cf.wf = true ∧ exec .reshape p1Deint = .next p1Reshape ∧ p1Reshape.mode = .ready
      ∧ (1 < p1Deint.cfgN0.toNat ∧ 1 < p1Deint.cfgN1.toNat ∧ 0 < p1Deint.cfgN2.toNat ∧ 0 < 4 / 4) :=
  ⟨by decide, by decide, p1_runs_reshape, by decide, by decide⟩
theorem witness_Linearisation : p1Reshape.t0Shape.inRange 1 1 0 0 = true ∧ 3 < p1Reshape.t0Shape.card := by decide

theorem witness_PermuteTransposes :
    (p1Deint.mode = .ready ∧ p1Deint.t0.valid = false)
      ∧ (badT0.mode = .ready ∧ badT0.t0.valid = true ∧ badT0.t0Shape.card ≠ badT0.t0.len.toNat ∧ 1 ≤ badT0.frameIdx.toNat)
      ∧ (p1Reshape.mode = .ready ∧ p1Reshape.t0.valid = true ∧ p1Reshape.t0.data.length = p1Reshape.t0.len.toNat
        ∧ p1Reshape.t0Shape.card = p1Reshape.t0.len.toNat ∧ 1 < p1Reshape.t0Shape.n1.toNat ∧ 0 < p1Reshape.t0Shape.n2.toNat
        ∧ 1 < p1Reshape.t0Shape.n0.toNat ∧ 0 < p1Reshape.t0Shape.n3.toNat) := by decide
theorem witness_PermuteKeepsTheMultiset :
    p1Reshape.mode = .ready ∧ p1Reshape.t0.wf = true ∧ exec .permute p1Reshape = .next p1Permute ∧ p1Permute.mode = .ready :=
  ⟨by decide, by decide, p1_runs_permute, by decide⟩
theorem witness_PermutedTensorIsUnreachable :
    p1Reshape.mode = .ready ∧ p1Reshape.t0.valid = true ∧ exec .permute p1Reshape = .next p1Permute ∧ p1Permute.mode = .ready
      ∧ (1#32).getLsbD 0 = true :=
  ⟨by decide, by decide, p1_runs_permute, by decide, by decide⟩

/-- The hypotheses of FrameReadErrorsOfFrame are those of LOAD's clauses. -/
theorem witness_FrameReadErrors :
    inError.mode ≠ .ready ∧ (p1Load.mode = .ready ∧ p1Load.cfgTotal.toNat ≤ p1Load.frameIdx.toNat)
      ∧ (p1.mode = .ready ∧ p1.frameIdx.toNat < p1.cfgTotal.toNat ∧ p1.rawCap < { p1 with cfgF := 9 }.cfgF.toNat)
      ∧ (0 < p1.cfgF.toNat ∧ { p1 with srcPlan := [false] }.sourceReadable = false)
      ∧ (p1.sourceReadable = true ∧ { p1 with rem := [] }.rem.length < 2 * p1.cfgF.toNat) := by decide
theorem witness_MalformedFrames :
    (p1.mode = .ready ∧ p1.frameIdx.toNat < p1.cfgTotal.toNat ∧ p1.sourceReadable = true)
      ∧ (2 * { p1 with cfgF := 1 }.cfgF.toNat ≤ p1.rem.length ∧ { p1 with cfgF := 1 }.cfgF.toNat % 4 ≠ 0)
      ∧ (2 * p1.cfgF.toNat ≤ p1.rem.length ∧ p1.cfgF.toNat % 4 = 0
        ∧ (geometryProduct { p1 with cfgN0 := 0 } = 0 ∨ p1.cfgF.toNat / 2 % geometryProduct { p1 with cfgN0 := 0 } ≠ 0))
      ∧ p1.cfgF.toNat / 2 % geometryProduct { p1 with cfgN0 := 128, cfgN1 := 3, cfgN2 := 4 } ≠ 0 := by decide
theorem witness_FrameDelivers :
    p1.mode = .ready ∧ p1.frameIdx.toNat < p1.cfgTotal.toNat ∧ p1.cfgF.toNat ≤ p1.rawCap ∧ p1.sourceReadable = true
      ∧ 2 * p1.cfgF.toNat ≤ p1.rem.length ∧ p1.cfgF.toNat % 4 = 0 ∧ geometryProduct p1 ≠ 0
      ∧ p1.cfgF.toNat / 2 % geometryProduct p1 = 0 ∧ 1 < p1.cfgN1.toNat ∧ 0 < p1.cfgN2.toNat ∧ 1 < p1.cfgN0.toNat := by
  decide
theorem witness_FrameEqualsTheFourCommands :
    p1.frameIdx.toNat < p1.cfgTotal.toNat ∧ exec .load p1 = .next p1Load ∧ exec .deint p1Load = .next p1Deint
      ∧ exec .reshape p1Deint = .next p1Reshape ∧ exec .permute p1Reshape = .next p1Permute ∧ p1Permute.mode = .ready :=
  ⟨by decide, p1_runs_load, p1_runs_deint, p1_runs_reshape, p1_runs_permute, by decide⟩
/-- Each of the first three steps can be the first to fail. -/
theorem witness_FrameReportsTheFirstFailingStep :
    ranWith (exec .load { p1 with rem := [] }) (fun t => t.mode != .ready) = true
      ∧ ranWith (exec .deint { p1Load with raw := .produced 1 [1] }) (fun t => t.mode != .ready) = true
      ∧ ranWith (exec .reshape { p1Deint with cfgN0 := 3 }) (fun t => t.mode != .ready) = true := by decide
/-- P1's result and counter left over, the same frame again in the source. -/
def p1Again : State := { p1Permute with cfgTotal := 2, rem := p1.rem, srcPlan := [true] }

theorem witness_FramesCarryNoStateAcross :
    (p1.mode = .ready ∧ p1Again.mode = .ready ∧ p1.frameIdx.toNat < p1.cfgTotal.toNat
      ∧ p1Again.frameIdx.toNat < p1Again.cfgTotal.toNat ∧ p1Again.cfgF = p1.cfgF ∧ p1Again.cfgN0 = p1.cfgN0
      ∧ p1Again.cfgN1 = p1.cfgN1 ∧ p1Again.cfgN2 = p1.cfgN2 ∧ p1Again.rawCap = p1.rawCap ∧ p1Again.rem = p1.rem
      ∧ p1Again.sourceReadable = p1.sourceReadable)
      ∧ exec .frame p1 = .next p1Frame ∧ exec .frame p1Again = .next { p1Frame with frameIdx := 2, cfgTotal := 2 } :=
  ⟨by decide, p1_runs_frame, ranTo_eq (by decide)⟩

theorem witness_StatusViewFields :
    (pending (.memWrite (BitVec.ofNat 30 (0x004 / 4)) 5) p1).inputs = [.memWrite (BitVec.ofNat 30 (0x004 / 4)) 5] := by decide
theorem witness_RegisterReads :
    (0x088, p1.probeIm) ∈ [(0x000, 0#32), (0x088, p1.probeIm)]
      ∧ (pending (.memRead (BitVec.ofNat 30 (0x088 / 4))) p1).inputs = [.memRead (BitVec.ofNat 30 (0x088 / 4))] := by decide
theorem witness_RegisterWrites :
    (pending (.memWrite (BitVec.ofNat 30 (0x080 / 4)) 5) p1).inputs = [.memWrite (BitVec.ofNat 30 (0x080 / 4)) 5]
      ∧ 0x088 ∈ [0x084, 0x088] := by decide
/-- The last sample of RAW. -/
theorem witness_RawWindow :
    Invariants p1Load ∧ p1Load.raw.valid = true ∧ 7 < p1Load.raw.len.toNat
      ∧ (pending (.memRead (BitVec.ofNat 30 (0x04000000 + 7))) p1Load).inputs = [.memRead (BitVec.ofNat 30 (0x04000000 + 7))] :=
  ⟨p1Load_invariants, by decide, by decide, by decide⟩
/-- The last element of CF, T0 and T1. -/
theorem witness_ComplexWindows :
    (Invariants p1Reshape ∧ p1Reshape.cf.valid = true ∧ 3 < p1Reshape.cf.len.toNat ∧ p1Reshape.t0.valid = true
        ∧ 3 < p1Reshape.t0.len.toNat)
      ∧ (Invariants p1Permute ∧ p1Permute.t1.valid = true ∧ 3 < p1Permute.t1.len.toNat) :=
  ⟨⟨p1Reshape_invariants, by decide, by decide, by decide, by decide⟩, p1Permute_invariants, by decide, by decide⟩
/-- Invalid; at the length; at the extent; the last word of a region. -/
theorem witness_WindowAccessesWithoutValue :
    p1.raw.valid = false ∧ p1Load.raw.len.toNat ≤ 8 ∧ p1Load.rawCap ≤ 8 ∧ p1Deint.cf.len.toNat ≤ 8 / 2
      ∧ 2 * (p1Deint.rawCap / 2) ≤ 8 ∧ 0x3FFFFFF < 2 ^ 26 := by decide
/-- The first and the last address of each unassigned range. -/
theorem witness_UnassignedAddresses :
    target (BitVec.ofNat 30 (0x18 / 4)) = .unassigned ∧ target (BitVec.ofNat 30 (0x1C / 4)) = .unassigned
      ∧ target (BitVec.ofNat 30 (0x34 / 4)) = .unassigned ∧ target (BitVec.ofNat 30 (0x3C / 4)) = .unassigned
      ∧ target (BitVec.ofNat 30 (0x8C / 4)) = .unassigned ∧ target (BitVec.ofNat 30 (0x0FFFFFFC / 4)) = .unassigned
      ∧ target (BitVec.ofNat 30 (0x50000000 / 4)) = .unassigned ∧ target (BitVec.ofNat 30 (0xFFFFFFFC / 4)) = .unassigned := by
  decide
theorem witness_ReadsHaveNoSideEffect :
    step (pending (.memRead (BitVec.ofNat 30 (0x040 / 4))) p1Load) = .next { p1Load with reply := some 8 } :=
  ranTo_eq (by decide)
theorem witness_ResetEvent : (pending .reset inHalted).inputs = [.reset] := by decide
theorem witness_ResetStateIsSafe : ranTo (step (pending .reset inHalted)) (resetEvent inHalted) = true := by decide

theorem witness_StepKeepsTheInvariants : Invariants p1Load ∧ step { p1Load with inputs := [] } = .next p1Load :=
  ⟨p1Load_invariants, ranTo_eq (by decide)⟩
theorem witness_StepKeepsOneFrame :
    Invariants p1Reshape ∧ OneFrame p1Reshape ∧ ranTo (step (p1Reshape.withFetchWord 32 4)) p1Permute = true
      ∧ OneFrame p1Permute :=
  ⟨p1Reshape_invariants, p1Reshape_oneFrame, by decide, p1Permute_oneFrame⟩
theorem witness_CommandsComplete : Invariants p1Permute := p1Permute_invariants
/-- A reset, an error, a halt, ERRCLR, a discarded command in ERROR and in HALTED. -/
theorem witness_ModeTransitions :
    ranWith (step (pending .reset inHalted)) (fun t => t.mode == .ready) = true
      ∧ ranWith (step (pending (.memWrite 0 2) p1)) (fun t => t.mode == .error) = true
      ∧ ranWith (step (pending (.memWrite 0 1) { p1 with rem := [] })) (fun t => t.mode == .halted) = true
      ∧ ranWith (step (pending (.memWrite 0 7) inError)) (fun t => t.mode == .ready) = true
      ∧ ranWith (step (pending (.memWrite 0 5) inError)) (fun t => t.mode == .error) = true
      ∧ ranWith (step (pending (.memWrite 0 7) inHalted)) (fun t => t.mode == .halted) = true := by decide
theorem witness_HaltedIsLeftOnlyByReset :
    inHalted.mode = .halted ∧ (∀ x ∈ { inHalted with inputs := [.memWrite 0 7] }.inputs, x ≠ Input.reset)
      ∧ Sys2Proof.core.run 1 { inHalted with inputs := [.memWrite 0 7] } = .next inHalted :=
  ⟨by decide, by decide, ranTo_eq (by decide)⟩
theorem witness_ErrorReport :
    Invariants p1Load ∧ p1Load.mode = .ready ∧ ranWith (exec .reshape p1Load) (fun t => t.mode != .ready && errIs 6 3 1 t) = true :=
  ⟨p1Load_invariants, by decide, by decide⟩
/-- A reset; a read of exactly the bytes left at exactly RAW_CAP, by LOAD and by FRAME; a read of none; a FRAME whose read succeeds and whose
deinterleave step fails. -/
theorem witness_FrameIndex :
    ranWith (step (pending .reset p1Load)) (fun t => t.frameIdx == 0) = true
      ∧ (p1.mode = .ready ∧ p1.frameIdx.toNat < p1.cfgTotal.toNat ∧ p1.cfgF.toNat = p1.rawCap ∧ p1.sourceReadable = true
        ∧ 2 * p1.cfgF.toNat = p1.rem.length)
      ∧ ranWith (step (pending (.memWrite 0 1) p1)) (fun t => t.frameIdx == 1) = true
      ∧ ranWith (step (pending (.memWrite 0 5) p1)) (fun t => t.frameIdx == 1) = true
      ∧ ranWith (step (pending (.memWrite 0 1) { p1 with cfgF := 0, srcPlan := [false] })) (fun t => t.frameIdx == 1) = true
      ∧ ranWith (step (pending (.memWrite 0 5) { p1 with cfgF := 7 })) (fun t => t.frameIdx == 1 && t.mode == .error) = true := by
  decide
/-- No read in full: another command; the DONE test at equality; one sample above RAW_CAP; unreadable; one byte short. -/
theorem witness_FrameIndex_stays :
    ranWith (step (pending (.memWrite 0 2) p1Load)) (fun t => t.frameIdx == 1) = true
      ∧ ranWith (step (pending (.memWrite 0 1) p1Load)) (fun t => t.frameIdx == 1) = true
      ∧ ranWith (step (pending (.memWrite 0 5) { p1 with cfgF := 9 })) (fun t => t.frameIdx == 0 && t.mode == .halted) = true
      ∧ ranWith (step (pending (.memWrite 0 1) { p1 with srcPlan := [false] })) (fun t => t.frameIdx == 0) = true
      ∧ ranWith (step (pending (.memWrite 0 5) { p1 with rem := p1.rem.drop 1 })) (fun t => t.frameIdx == 0) = true := by
  decide
theorem witness_CommandsNeverWriteConfiguration : exec .frame p1 = .next p1Frame := p1_runs_frame
theorem witness_ConsumedBytes :
    step (pending (.memWrite 0 1) p1) = .next p1Load
      ∧ ranWith (step (pending (.memWrite 0 1) { p1 with rem := [1] })) (fun t => t.rem == []) = true :=
  ⟨ranTo_eq (by decide), by decide⟩
theorem witness_CommandsSample :
    (exec .nop p1 = .next p1 ∧ exec .errclr inError = .next p1Load ∧ exec .deint p1Load = .next p1Deint
        ∧ exec .permute p1Reshape = .next p1Permute)
      ∧ exec .probe { p1Permute with pidx0 := 1, pidx2 := 1 } = .next { p1Permute with
          pidx0 := 1, pidx2 := 1, probeRe := 0x41A80000, probeIm := 0x42240000, probeV := true }
      ∧ exec .load p1 = .next p1Load ∧ exec .reshape p1Deint = .next p1Reshape
      ∧ (Instr.frame ≠ .probe ∧ exec .frame p1 = .next p1Frame) :=
  ⟨⟨ranTo_eq (by decide), ranTo_eq (by decide), p1_runs_deint, p1_runs_permute⟩, ranTo_eq (by decide), p1_runs_load,
    p1_runs_reshape, by decide, p1_runs_frame⟩
/-- The sign changes at `hi = 128`; R67's own examples; the last sample of a frame of four bytes. -/
theorem witness_SamplesAreLittleEndian :
    ((0x7F : Byte).toNat < 128 ∧ (i16 0xFF 0x7F).toInt = 32767) ∧ (128 ≤ (0x80 : Byte).toNat ∧ (i16 0x00 0x80).toInt = -32768)
      ∧ (i16 0xFE 0xFF).toInt = -2 ∧ ([0x0A, 0x00, 0xFE, 0xFF] : List Byte).length = 2 * 2
      ∧ (samplesOf [0x0A, 0x00, 0xFE, 0xFF])[1]? = some 0xFFFE := by decide

end Sys2Proof.Tests
end

section
/-! ### The bytes of a sample (R9, R67, R94) -/

namespace Sys2Proof.Machine

theorem i16_toNat (lo hi : Byte) : (i16 lo hi).toNat = lo.toNat + 256 * hi.toNat := by
  have hlo : lo.toNat < 2 ^ 8 := lo.isLt
  calc (i16 lo hi).toNat
      = hi.toNat <<< 8 ||| lo.toNat := BitVec.toNat_append hi lo
    _ = hi.toNat <<< 8 + lo.toNat := (Nat.shiftLeft_add_eq_or_of_lt hlo _).symm
    _ = lo.toNat + 256 * hi.toNat := by rw [Nat.shiftLeft_eq]; omega

/-- The sign of a sample is that of its second byte. -/
theorem i16_toInt (lo hi : Byte) :
    (i16 lo hi).toInt = if hi.toNat < 128 then (lo.toNat + 256 * hi.toNat : Int)
      else lo.toNat + 256 * hi.toNat - 65536 := by
  have hlo : lo.toNat < 2 ^ 8 := lo.isLt
  have hsign : 2 * (lo.toNat + 256 * hi.toNat) < 65536 ↔ hi.toNat < 128 := by omega
  rw [BitVec.toInt_eq_toNat_cond, i16_toNat]
  simp [hsign]

/-- Sample `k` is made of bytes `2k` and `2k+1`, whatever follows them. -/
theorem samplesOf_getElem? : ∀ (b : List Byte) (k : Nat) (h : 2 * k + 1 < b.length),
    (samplesOf b)[k]? = some (i16 b[2 * k] b[2 * k + 1])
  | _ :: _ :: _, 0, _ => rfl
  | _ :: _ :: rest, k + 1, h => samplesOf_getElem? rest k (by simp only [List.length_cons] at h; omega)
  | [], _, h => by simp at h
  | [_], _, h => by simp at h

end Sys2Proof.Machine

open Sys2Proof Sys2Proof.Machine

/-- Settles O51: the value of `i16` by cases on the sign, and the samples by recursion on the byte pairs. -/
theorem samplesAreLittleEndian : Obligations.SamplesAreLittleEndian := by
  refine ⟨fun lo hi => ⟨i16_toNat lo hi, fun h => ?_, fun h => ?_⟩,
    fun n b hb => ⟨samplesOf_length hb, fun k hk => ?_⟩⟩
  · rw [i16_toInt, if_pos h]
  · rw [i16_toInt, if_neg (by omega)]
  · have hpair : 2 * k + 1 < b.length := by omega
    exact ⟨b[2 * k], b[2 * k + 1], i16 b[2 * k] b[2 * k + 1], List.getElem?_eq_getElem _,
      List.getElem?_eq_getElem _, samplesOf_getElem? b k hpair, i16_toNat _ _⟩
end

section
/-! ### Row-major indices stay in range (R72, R73, R161) -/

namespace Sys2Proof.Machine

/-- The flat index of an in-range tuple is below the number of elements (R72). -/
theorem lin_lt_card {S : Shape} {i j k l : Nat} (hi : i < S.n0.toNat) (hj : j < S.n1.toNat) (hk : k < S.n2.toNat)
    (hl : l < S.n3.toNat) : lin S i j k l < S.card :=
  have row {a b x y : Nat} (hx : x < a) (hy : y < b) : x * b + y < a * b :=
    calc x * b + y < x * b + b := by omega
      _ = (x + 1) * b := by rw [Nat.succ_mul]
      _ ≤ a * b := Nat.mul_le_mul_right b hx
  row (row (row hi hj) hk) hl

/-- The index tuple of a flat index below the number of elements is in range (R73). -/
theorem unlin_inRange {S : Shape} {n i j k l : Nat} (hn : n < S.card) (h : unlin S n = (i, j, k, l)) :
    i < S.n0.toNat ∧ j < S.n1.toNat ∧ k < S.n2.toNat ∧ l < S.n3.toNat := by
  have hpos : 0 < S.n0.toNat * S.n1.toNat * S.n2.toNat * S.n3.toNat := Nat.zero_lt_of_lt hn
  have h3 : 0 < S.n3.toNat := Nat.pos_of_mul_pos_left hpos
  have h012 := Nat.pos_of_mul_pos_right hpos
  have h2 : 0 < S.n2.toNat := Nat.pos_of_mul_pos_left h012
  have h1 : 0 < S.n1.toNat := Nat.pos_of_mul_pos_left (Nat.pos_of_mul_pos_right h012)
  obtain ⟨rfl, rfl, rfl, rfl⟩ : _ = i ∧ _ = j ∧ _ = k ∧ _ = l := by simpa [unlin] using h
  refine ⟨Nat.div_lt_of_lt_mul ?_, Nat.mod_lt _ h1, Nat.mod_lt _ h2, Nat.mod_lt _ h3⟩
  simpa [Shape.card, Nat.mul_assoc, Nat.mul_comm, Nat.mul_left_comm] using hn

/-- Permuting the axes keeps the number of elements (R164). -/
theorem Shape.card_permuted (S : Shape) : S.permuted.card = S.card := by
  simp only [Shape.card, Shape.permuted, Shape.axis, permTab]
  ring

/-- Every element of T1 comes from an element of T0 (R161). -/
theorem permSource_lt_card {S : Shape} {m : Nat} (hm : m < S.card) : permSource S m < S.card := by
  rcases h : unlin S.permuted m with ⟨i, j, k, l⟩
  obtain ⟨hi, hj, hk, hl⟩ := unlin_inRange (S.card_permuted.symm ▸ hm) h
  have hsrc : permSource S m = lin S k i j l := by simp only [permSource, h]
  exact hsrc ▸ lin_lt_card hk hi hj hl

/-- PROBE's range check keeps its flat index below the number of elements (R211). -/
theorem lin_lt_card_of_inRange {S : Shape} {i j k l : Nat} (h : S.inRange i j k l = true) : lin S i j k l < S.card := by
  simp only [Shape.inRange, Bool.and_eq_true, decide_eq_true_eq] at h
  obtain ⟨⟨⟨hi, hj⟩, hk⟩, hl⟩ := h
  exact lin_lt_card hi hj hk hl

end Sys2Proof.Machine
end

section
/-! ### The invariants are kept by the shared operations (R42) -/

namespace Sys2Proof.Machine

theorem ErrorKind.code_ne_zero (e : ErrorKind) : e.code ≠ 0 := by cases e <;> decide

theorem ErrorKind.modeAfter_ne_ready (e : ErrorKind) : e.modeAfter ≠ .ready := by cases e <;> decide

theorem Stage.code_le (st : Stage) : st.code.toNat ≤ 4 := by cases st <;> decide

variable {s : State}

theorem invariants_takeInput {rest : List Input} (h : Invariants s) : Invariants (takeInput rest s) := { h with }

/-- A read on the port changes the reply and the count of free values alone (R70). -/
theorem invariants_reply {r : Option Word} {f : Nat} (h : Invariants s) : Invariants { s with reply := r, free := f } :=
  { h with }

theorem invariants_writeReg {r : Reg} {v : Word} (h : Invariants s) : Invariants (s.writeReg r v) := by
  cases r <;> exact { h with }

theorem invariants_clearProbe (h : Invariants s) : Invariants (clearProbe s) :=
  { h with noCapture := fun _ => ⟨rfl, rfl⟩ }

/-- A capture of PROBE (R211 step 4). -/
theorem invariants_capture {x : ComplexSample} (h : Invariants s) :
    Invariants { s with probeRe := x.re, probeIm := x.im, probeV := true } :=
  { h with noCapture := fun hv => nomatch hv }

/-- Error entry needs only that the recorded frame index does not exceed FRAME_IDX (R236, R237). -/
theorem invariants_raise {e : ErrorKind} {st : Stage} (h : Invariants s)
    (hf : (errorFrame e s).toNat ≤ s.frameIdx.toNat) : Invariants (raise e st s) :=
  { h with
    readyIffNoError := ⟨fun hm => absurd hm e.modeAfter_ne_ready, fun hc => absurd hc e.code_ne_zero⟩
    noReportWithoutError := fun hc => absurd hc e.code_ne_zero
    errFrameBound := hf
    modeOfError := .inr ⟨e, rfl, rfl⟩
    stageBound := st.code_le }

theorem invariants_returnFromError (h : Invariants s) : Invariants (returnFromError s) :=
  { h with
    readyIffNoError := ⟨fun _ => rfl, fun _ => rfl⟩
    noReportWithoutError := fun _ => ⟨rfl, rfl⟩
    errFrameBound := Nat.zero_le _
    modeOfError := .inl rfl
    stageBound := Nat.zero_le _ }

/-- Reset establishes the invariants whatever the state before it; RAW_CAP alone stays (R43, R270). -/
theorem invariants_resetEvent (h : s.rawCap ≤ 2 ^ 26) : Invariants (resetEvent s) where
  memory := Memory.wf_resetEvent s
  rawFits := fun hv => nomatch hv
  cfFromRaw := fun hv => nomatch hv
  t0Fits := fun hv => nomatch hv
  t1Fits := fun hv => nomatch hv
  frameCounted := fun hv => nomatch hv
  readyIffNoError := ⟨fun _ => rfl, fun _ => rfl⟩
  noReportWithoutError := fun _ => ⟨rfl, rfl⟩
  errFrameBound := Nat.le_refl _
  capBound := h
  modeOfError := .inl rfl
  stageBound := Nat.zero_le _
  noCapture := fun _ => ⟨rfl, rfl⟩

/-! ### Release (R37) -/

theorem invariants_releaseCf (h : Invariants s) : Invariants (releaseCf s) :=
  { h with
    memory := Memory.wf_releaseCf h.memory
    cfFromRaw := fun hv => nomatch hv
    frameCounted := fun hv => h.frameCounted (by simp at hv ⊢; tauto) }

theorem invariants_releaseT0 (h : Invariants s) : Invariants (releaseT0 s) :=
  { h with
    memory := Memory.wf_releaseT0 h.memory
    t0Fits := fun hv => nomatch hv
    frameCounted := fun hv => h.frameCounted (by simp at hv ⊢; tauto) }

/-- RAW goes only together with CF, which derives from it (R42 item 3, R181). -/
theorem invariants_releaseCf_releaseRaw (h : Invariants s) : Invariants (releaseCf (releaseRaw s)) :=
  { h with
    memory := Memory.wf_releaseCf (Memory.wf_releaseRaw h.memory)
    rawFits := fun hv => nomatch hv
    cfFromRaw := fun hv => nomatch hv
    frameCounted := fun hv => h.frameCounted (by simp at hv ⊢; tauto) }

theorem invariants_releaseAll (h : Invariants s) : Invariants (releaseAll s) :=
  { h with
    memory := Memory.wf_releaseAll s
    rawFits := fun hv => nomatch hv
    cfFromRaw := fun hv => nomatch hv
    t0Fits := fun hv => nomatch hv
    t1Fits := fun hv => nomatch hv
    frameCounted := fun hv => nomatch hv }

end Sys2Proof.Machine
end

section
/-! ### Under the invariants every step of a command finds the elements it reads and keeps the invariants (R42) -/

namespace Sys2Proof.Machine

/-- A step of a command that did not meet an element without a value, and whose state meets the invariants: at once, or
after the error it raises is recorded. -/
def StepEnd.Sound : StepEnd → Prop
  | .done u => Invariants u
  | .raised e _ u => Invariants u ∧ (errorFrame e u).toNat ≤ u.frameIdx.toNat
  | .noValue => False

theorem StepEnd.Sound.andThen {r : StepEnd} {f : State → StepEnd} (hr : r.Sound)
    (hf : ∀ u, Invariants u → (f u).Sound) : (r.andThen f).Sound :=
  match r, hr with
  | .done u, hu => hf u hu
  | .raised _ _ _, hu => hu

theorem StepEnd.Sound.finish {r : StepEnd} (hr : r.Sound) : ∃ t, r.finish = .next t ∧ Invariants t :=
  match r, hr with
  | .done u, hu => ⟨u, rfl, hu⟩
  | .raised _ _ _, ⟨hu, hf⟩ => ⟨_, rfl, invariants_raise hu hf⟩

theorem errorFrame_releaseAll (e : ErrorKind) (s : State) : errorFrame e (releaseAll s) = errorFrame e s := by
  cases e <;> rfl

theorem StepEnd.Sound.finishFrame {r : StepEnd} (hr : r.Sound) : ∃ t, r.finishFrame = .next t ∧ Invariants t :=
  match r, hr with
  | .done _, hu => ⟨_, rfl, invariants_releaseCf_releaseRaw hu⟩
  | .raised e _ u, ⟨hu, hf⟩ =>
    ⟨_, rfl, invariants_raise (invariants_releaseAll hu) ((errorFrame_releaseAll e u).symm ▸ hf)⟩

/-- Where a frame has been read, no error records an index above FRAME_IDX (R237). -/
theorem errorFrame_le {e : ErrorKind} {s : State} (h : 1 ≤ s.frameIdx.toNat) :
    (errorFrame e s).toNat ≤ s.frameIdx.toNat := by
  have hres : (residentFrame s).toNat ≤ s.frameIdx.toNat := by
    have hne : s.frameIdx ≠ 0 := fun h0 => by simp [h0] at h
    rw [residentFrame, if_neg hne]
    bv_omega
  cases e with
  | invalidFrameSize | shapeMismatch => exact hres
  | shortRead | sourceUnavailable | allocationFailure | staleOperand | illegalCommand => exact Nat.le_refl _

/-- A buffer that a step has written reads back the elements the step collected (R37, R38). -/
theorem get?_produced_of_collect {α : Type} {f : Nat → Option α} {k : Nat} {xs : List α} {len : Word}
    (hc : collect f 0 k = some xs) (hk : len.toNat = k) {n : Nat} (hn : n < len.toNat) :
    (Buffer.produced len xs).get? n = f n := by
  have hget := (collect_eq_some_iff.mp hc).2 n (hk ▸ hn)
  rw [Buffer.get?_of_valid rfl hn, Buffer.produced_data, ← hget, Nat.zero_add]

/-! ### The frame read step -/

/-- Below the frame limit the counter does not wrap around (R31, R183). -/
theorem frameIdx_succ_toNat {s : State} (hd : s.done = false) :
    (s.frameIdx + 1).toNat = s.frameIdx.toNat + 1 := by
  have hlt : s.frameIdx.toNat < s.cfgTotal.toNat := by simpa [State.done] using hd
  have := s.cfgTotal.isLt
  rw [BitVec.toNat_add]
  exact Nat.mod_eq_of_lt (by simpa using (by omega : s.frameIdx.toNat + 1 < 2 ^ 32))

theorem invariants_of_env {s : State} {r : List Byte} {p : List Bool} {f : Nat} (h : Invariants s) :
    Invariants { s with rem := r, srcPlan := p, free := f } := { h with }

theorem invariants_srcRead {n : Nat} {s u : State} {a : SrcAnswer} (h : Invariants s) (hr : srcRead n s = (a, u)) :
    Invariants u := srcRead_env hr ▸ invariants_of_env h

/-- A frame read in full, CF not valid: RAW is valid and the frame is counted (R180 steps 5 and 6). -/
theorem invariants_produceRaw {s : State} {len i : Word} {d : List Sample} (h : Invariants s)
    (hcf : s.cf.valid = false) (hd : d.length = len.toNat) (hcap : len.toNat ≤ s.rawCap)
    (hi : i.toNat = s.frameIdx.toNat + 1) : Invariants { s with raw := .produced len d, frameIdx := i } :=
  have hle : s.errFrame.toNat ≤ s.frameIdx.toNat := h.errFrameBound
  { h with
    memory := Memory.wf_produceRaw h.memory hd
    rawFits := fun _ => hcap
    cfFromRaw := fun hv => by simp [hcf] at hv
    frameCounted := fun _ => by simp only; omega
    errFrameBound := by simp only; omega }

theorem frameReadStep_sound {s : State} (h : Invariants s) (hd : s.done = false) : (frameReadStep s).Sound := by
  have h1 : Invariants (clearProbe (releaseAll s)) := invariants_clearProbe (invariants_releaseAll h)
  rcases frameReadStep_cases s with ⟨-, e⟩ | ⟨-, u, hr, e⟩ | ⟨-, u, hr, e⟩ | ⟨hcap, b, u, hr, e⟩ <;> rw [e]
  · exact ⟨h1, Nat.le_refl _⟩
  · exact ⟨invariants_srcRead h1 hr, Nat.le_refl _⟩
  · exact ⟨invariants_srcRead h1 hr, Nat.le_refl _⟩
  · have hlen : (samplesOf b).length = s.cfgF.toNat := samplesOf_length (srcRead_bytes_length hr)
    have henv := srcRead_env hr
    have hcap' : s.cfgF.toNat ≤ u.rawCap := (congrArg State.rawCap henv).symm ▸ hcap
    have hidx : (s.frameIdx + 1).toNat = u.frameIdx.toNat + 1 :=
      (congrArg State.frameIdx henv).symm ▸ frameIdx_succ_toNat hd
    exact invariants_produceRaw (invariants_srcRead h1 hr) (congrArg (·.cf.valid) henv) hlen hcap' hidx

/-! ### The deinterleave step -/

theorem deintTab_lt (k : Nat) : deintTab k < deintStride := by
  unfold deintTab
  split <;> decide

/-- The two samples of an element of the ComplexFrame lie within RAW (R121 step 5). -/
theorem deintElement_isSome {raw : Buffer Sample} (hwf : raw.wf = true) (hv : raw.valid = true) {m : Nat}
    (hm : m < 2 * (raw.len.toNat / 4)) : (deintElement raw m).isSome = true := by
  have sample (k : Nat) : ∃ x, raw.get? (deintStride * (m / 2) + deintTab k) = some x :=
    Option.isSome_iff_exists.mp (Buffer.get?_isSome hwf hv (by
      have hk := deintTab_lt k
      simp only [deintStride] at hk ⊢
      omega))
  obtain ⟨x, hx⟩ := sample (2 * (m % 2))
  obtain ⟨y, hy⟩ := sample (2 * (m % 2) + 1)
  simp [deintElement, hx, hy]

theorem deintStep_sound {s : State} (h : Invariants s) : (deintStep s).Sound := by
  rcases deintStep_cases s with ⟨-, e⟩ | ⟨hv, -, e⟩ | ⟨hv, -, hc, e⟩ | ⟨hv, h4, xs, hc, e⟩ <;> rw [e]
  · exact ⟨h, Nat.le_refl _⟩
  · exact ⟨invariants_releaseCf h, errorFrame_le (h.frameCounted (by simp [hv]))⟩
  · obtain ⟨hwf, -⟩ := Memory.wf_iff.mp h.memory
    obtain ⟨xs, hxs⟩ := collect_isSome (f := deintElement s.raw) (n := 0) (k := 2 * (s.raw.len.toNat / 4))
      fun m hm => deintElement_isSome hwf hv (by omega)
    simp [hc] at hxs
  · obtain ⟨hlen, -⟩ := collect_eq_some_iff.mp hc
    have hraw := h.rawFits hv
    have hcap := h.capBound
    have hL : (BitVec.ofNat 32 (2 * (s.raw.len.toNat / 4))).toNat = s.raw.len.toNat / 2 := by
      rw [BitVec.toNat_ofNat, Nat.mod_eq_of_lt] <;> omega
    exact { h with
      memory := Memory.wf_produceCf h.memory (by omega)
      cfFromRaw := fun _ => ⟨hv, h4, hL, by simp only [Buffer.produced_len, hL]; omega, fun n hn =>
        get?_produced_of_collect hc (by omega) hn⟩
      frameCounted := fun _ => h.frameCounted (by simp [hv]) }

/-! ### The reshape step -/

theorem collect_get?_ne_none {α : Type} {b : Buffer α} {g : Nat → Nat} (hwf : b.wf = true) (hv : b.valid = true)
    (hg : ∀ m < b.len.toNat, g m < b.len.toNat) : collect (fun m => b.get? (g m)) 0 b.len.toNat ≠ none := by
  obtain ⟨xs, hxs⟩ := collect_isSome (f := fun m => b.get? (g m)) (n := 0) (k := b.len.toNat) fun m hm =>
    Buffer.get?_isSome hwf hv (hg (0 + m) (by omega))
  simp [hxs]

/-- A ComplexFrame divided by the geometry: the shape registers declare exactly its elements (R140 steps 4 and 6). -/
theorem card_of_geometry {s : State} {L : Word} (hm : L.toNat % geometryProduct s = 0) :
    Shape.card { n0 := s.cfgN0, n1 := s.cfgN1, n2 := s.cfgN2, n3 := BitVec.ofNat 32 (L.toNat / geometryProduct s) }
      = L.toNat := by
  have hn3 : (BitVec.ofNat 32 (L.toNat / geometryProduct s)).toNat = L.toNat / geometryProduct s := by
    rw [BitVec.toNat_ofNat, Nat.mod_eq_of_lt (Nat.lt_of_le_of_lt (Nat.div_le_self _ _) L.isLt)]
  simp only [Shape.card, hn3]
  exact Nat.mul_div_cancel' (Nat.dvd_of_mod_eq_zero hm)

theorem reshapeStep_sound {s : State} (h : Invariants s) : (reshapeStep s).Sound := by
  obtain ⟨-, hcf, -⟩ := Memory.wf_iff.mp h.memory
  rcases reshapeStep_cases s with ⟨-, e⟩ | ⟨hv, -, e⟩ | ⟨hv, -, -, hc, e⟩ | ⟨hv, -, hm, xs, hc, e⟩ <;> rw [e]
  · exact ⟨h, Nat.le_refl _⟩
  · exact ⟨invariants_releaseT0 h, errorFrame_le (h.frameCounted (by simp [hv]))⟩
  · exact absurd hc (collect_get?_ne_none (g := id) hcf hv fun _ hm => hm)
  · obtain ⟨-, -, -, hfit, -⟩ := h.cfFromRaw hv
    exact { h with
      memory := Memory.wf_produceT0 h.memory (collect_eq_some_iff.mp hc).1
      t0Fits := fun _ => ⟨card_of_geometry hm, hfit⟩
      frameCounted := fun _ => h.frameCounted (by simp [hv]) }

/-! ### The permute step -/

theorem permuteStep_sound {s : State} (h : Invariants s) : (permuteStep s).Sound := by
  obtain ⟨-, -, ht0, -⟩ := Memory.wf_iff.mp h.memory
  rcases permuteStep_cases s with ⟨-, e⟩ | ⟨hv, hne, -⟩ | ⟨hv, heq, hc, -⟩ | ⟨hv, heq, xs, hc, e⟩
  · rw [e]
    exact ⟨h, Nat.le_refl _⟩
  · exact absurd (h.t0Fits hv).1 hne
  · exact absurd hc (collect_get?_ne_none ht0 hv fun m hm => heq ▸ permSource_lt_card (heq.symm ▸ hm))
  · rw [e]
    have hlen := (collect_eq_some_iff.mp hc).1
    exact { h with
      memory := Memory.wf_releaseT0 (Memory.wf_produceT1 h.memory hlen)
      t0Fits := fun hv => nomatch hv
      t1Fits := fun _ => ⟨s.t0Shape.card_permuted.trans heq, (h.t0Fits hv).2⟩
      frameCounted := fun _ => h.frameCounted (by simp [hv]) }

theorem frameSteps_sound {s : State} (h : Invariants s) (hd : s.done = false) : (frameSteps s).Sound :=
  (((frameReadStep_sound h hd).andThen fun _ => deintStep_sound).andThen fun _ => reshapeStep_sound).andThen
    fun _ => permuteStep_sound

/-! ### Commands and steps -/

/-- At the DONE test LOAD and FRAME end without effect (R180 step 1, R181 step 1). -/
theorem exec_of_done {s : State} {i : Instr} (hd : s.done = true) (hi : i = .load ∨ i = .frame) :
    exec i s = .next s := by
  rcases hi with rfl | rfl <;> cases hm : s.mode <;> simp [exec, execLoad, execFrame, whenReady, hm, hd]

/-- PROBE finds the element it addresses, in whichever tensor it selects (R211). -/
theorem execProbe_sound {s : State} (h : Invariants s) (hm : s.mode = .ready) :
    ∃ t, execProbe s = .next t ∧ Invariants t := by
  obtain ⟨-, -, hwf0, hwf1, -⟩ := Memory.wf_iff.mp h.memory
  have hbuf : (probeBuffer s).wf = true
      ∧ ((probeBuffer s).valid = true → (probeShape s).card = (probeBuffer s).len.toNat) := by
    cases hp : probeSelectsT0 s
    · simpa [probeBuffer, probeShape, hp] using ⟨hwf1, fun hv => (h.t1Fits hv).1⟩
    · simpa [probeBuffer, probeShape, hp] using ⟨hwf0, fun hv => (h.t0Fits hv).1⟩
  obtain ⟨hwf, hcard⟩ := hbuf
  rcases execProbe_cases s hm with ⟨-, e⟩ | ⟨hv, hin, ⟨hnone, -⟩ | ⟨x, -, e⟩⟩
  · exact ⟨_, e, invariants_clearProbe h⟩
  · have hsome := Buffer.get?_isSome hwf hv (n := probeIndex s) (hcard hv ▸ lin_lt_card_of_inRange hin)
    simp [hnone] at hsome
  · exact ⟨_, e, invariants_capture h⟩

/-- Under the invariants every command completes and keeps them (R42 item 6). -/
theorem exec_sound {s : State} (h : Invariants s) (i : Instr) : ∃ t, exec i s = .next t ∧ Invariants t := by
  by_cases hm : s.mode = .ready
  · cases i with
    | nop => exact ⟨s, whenReady_of_ready hm, h⟩
    | load =>
      cases hd : s.done
      · exact exec_load_of_ready hm hd ▸ (frameReadStep_sound h hd).finish
      · exact ⟨s, exec_of_done hd (.inl rfl), h⟩
    | deint => exact exec_deint_of_ready hm ▸ (deintStep_sound h).finish
    | reshape => exact exec_reshape_of_ready hm ▸ (reshapeStep_sound h).finish
    | permute => exact exec_permute_of_ready hm ▸ (permuteStep_sound h).finish
    | frame =>
      cases hd : s.done
      · exact exec_frame_of_ready hm hd ▸ (frameSteps_sound h hd).finishFrame
      · exact ⟨s, exec_of_done hd (.inr rfl), h⟩
    | probe => exact execProbe_sound h hm
    | errclr => exact ⟨s, by simp [exec, execErrclr, hm], h⟩
  · by_cases hi : i = .errclr
    · subst hi
      cases hm' : s.mode with
      | ready => exact absurd hm' hm
      | error => exact ⟨_, by simp only [exec, execErrclr, hm'], invariants_returnFromError h⟩
      | halted => exact ⟨s, exec_of_halted hm', h⟩
    · exact ⟨s, exec_of_not_ready hm hi, h⟩

end Sys2Proof.Machine
end

section
/-! ### A write to the port is a command, a discard, or a register's own write: it completes (R40, R213) -/

namespace Sys2Proof.Machine

/-- A write of a legal word to CMD runs the decoded command (R22, R40). -/
theorem step_command {s : State} {c : Word} {rest : List Input} {i : Instr} (hx : s.inputs = .memWrite 0 c :: rest)
    (hc : decode c = .ok i) : step s = exec i (takeInput rest s) := by
  have hcmd : target 0 = .reg .cmd := target_word .cmd
  rw [step_cons hx]
  simp only [serve, serveWrite, hcmd, if_true, serveCommand, hc]

theorem completes_next (s : State) : Completes (.next s) := ⟨s, rfl⟩

theorem serveCommand_completes {s : State} {c : Word} (h : ∀ i, Completes (exec i s)) : Completes (serveCommand c s) := by
  unfold serveCommand
  split
  · exact h _
  · by_cases hm : s.mode = .ready
    · exact whenReady_of_ready hm ▸ completes_next _
    · exact whenReady_of_not_ready hm ▸ completes_next s

theorem serveWrite_completes {s : State} {a : WordIndex} {v : Word} (h : ∀ i, Completes (exec i s)) :
    Completes (serveWrite a v s) := by
  unfold serveWrite
  split
  · split
    · exact serveCommand_completes h
    · exact completes_next _
  · exact completes_next s
  · exact completes_next s

/-- A read can stop only for want of a value in a window (R38). -/
theorem serveRead_cases (a : WordIndex) (s : State) :
    Completes (serveRead a s) ∨ serveRead a s = .fault .windowNoValue := by
  unfold serveRead
  split
  · exact .inl (completes_next _)
  · split
    · exact .inl (completes_next _)
    · exact .inr rfl
  · exact .inl (completes_next _)

end Sys2Proof.Machine

open Sys2Proof Sys2Proof.Machine

/-- Settles O41: each event keeps the invariants; for a command this is `exec_sound`. -/
theorem stepKeepsTheInvariants : Obligations.StepKeepsTheInvariants := by
  intro s t hI h
  cases hx : s.inputs with
  | nil =>
    rw [step_nil hx] at h
    cases h
    exact hI
  | cons x rest =>
    have hT : Invariants (takeInput rest s) := invariants_takeInput hI
    rcases step_cases hx h with ⟨-, rfl⟩ | ⟨_, _, _, -, rfl⟩ | ⟨_, _, _, -, -, rfl⟩ | ⟨_, _, -, rfl⟩
      | ⟨_, i, -, -, hi⟩ | ⟨_, _, -, -, rfl⟩
    · exact invariants_resetEvent hT.capBound
    · exact invariants_reply hT
    · exact invariants_writeReg hT
    · exact hT
    · obtain ⟨t', ht', hI'⟩ := exec_sound hT i
      rw [hi] at ht'
      cases ht'
      exact hI'
    · split
      · exact invariants_raise hT (Nat.le_refl _)
      · exact hT

/-- Settles O43: commands by `exec_sound`; on the port only a read of a window can stop. -/
theorem commandsCompleteUnderTheInvariants : Obligations.CommandsCompleteUnderTheInvariants := by
  intro s hI
  have completes {u : State} (hu : Invariants u) (i : Instr) : Completes (exec i u) :=
    let ⟨t, ht, _⟩ := exec_sound hu i
    ⟨t, ht⟩
  refine ⟨completes hI, ?_⟩
  cases hx : s.inputs with
  | nil => exact .inl ⟨s, step_nil hx⟩
  | cons x rest =>
    rw [step_cons hx]
    cases x with
    | reset => exact .inl (completes_next _)
    | memWrite a v => exact .inl (serveWrite_completes (completes (invariants_takeInput hI)))
    | memRead a => exact (serveRead_cases a _).imp_right fun hf => ⟨a, rest, rfl, hf⟩

/-- Settles O5: word 0 of the port is CMD, and `withFetchWord` writes there. -/
theorem stepRunsTheDecodedCommand : Obligations.StepRunsTheDecodedCommand := by
  refine ⟨fun s c rest i hx hc => ⟨by cases i <;> rfl, step_command hx hc⟩, fun s w i hw => ?_⟩
  have hc : decode (BitVec.ofNat 32 (w % 2 ^ 32)) = .ok i := by
    unfold decodeTableWord at hw
    split at hw
    · rename_i j hj
      cases hw
      exact hj
    · cases hw
  have hx : (s.withFetchWord 32 w).inputs = .memWrite 0 (BitVec.ofNat 32 (w % 2 ^ 32)) :: s.inputs := rfl
  exact step_command hx hc

/-- Settles O40: reset as an event leaves the reset state unchanged, and RAW_CAP is within its bound. -/
theorem invariantsHoldAtReset : Obligations.InvariantsHoldAtReset := by
  have hcap : State.reset.rawCap ≤ 2 ^ 26 := Nat.le_of_lt_succ Config.rawCapParam.isLt
  exact ⟨invariants_resetEvent hcap, fun hv => (nomatch hv), fun hv => (nomatch hv)⟩
end

section
/-! ### What the steps of a command leave unchanged (R39, R46, R181) -/

namespace Sys2Proof.Machine

/-- The state in which a step of a command ends, done or with an error to be recorded, has property `p`. -/
def StepEnd.EndsIn (p : State → Prop) : StepEnd → Prop
  | .done u => p u
  | .raised _ _ u => p u
  | .noValue => True

theorem StepEnd.EndsIn.of_done {p : State → Prop} {r : StepEnd} {u : State} (h : r.EndsIn p) (hr : r = .done u) : p u := by
  subst hr
  exact h

theorem StepEnd.EndsIn.mono {p q : State → Prop} {r : StepEnd} (h : r.EndsIn p) (hpq : ∀ u, p u → q u) : r.EndsIn q :=
  match r, h with
  | .done u, hu => hpq u hu
  | .raised _ _ u, hu => hpq u hu
  | .noValue, _ => trivial

theorem StepEnd.EndsIn.andThen {p : State → Prop} {r : StepEnd} {f : State → StepEnd} (h : r.EndsIn p)
    (hf : ∀ u, p u → (f u).EndsIn p) : (r.andThen f).EndsIn p :=
  match r, h with
  | .done u, hu => hf u hu
  | .raised _ _ _, hu => hu
  | .noValue, _ => trivial

theorem StepEnd.finish_cases {r : StepEnd} {t : State} (h : r.finish = .next t) :
    r = .done t ∨ ∃ e st u, r = .raised e st u ∧ t = raise e st u := by
  cases r with
  | done u => cases h; exact .inl rfl
  | raised e st u => cases h; exact .inr ⟨e, st, u, rfl, rfl⟩
  | noValue => cases h

theorem StepEnd.finishFrame_cases {r : StepEnd} {t : State} (h : r.finishFrame = .next t) :
    (∃ u, r = .done u ∧ t = releaseCf (releaseRaw u)) ∨ ∃ e st u, r = .raised e st u ∧ t = raise e st (releaseAll u) := by
  cases r with
  | done u => cases h; exact .inl ⟨u, rfl, rfl⟩
  | raised e st u => cases h; exact .inr ⟨e, st, u, rfl, rfl⟩
  | noValue => cases h

/-- A property that error entry keeps passes from the step to the command (R236). -/
theorem StepEnd.EndsIn.finish {p : State → Prop} {r : StepEnd} {t : State} (hr : r.EndsIn p) (h : r.finish = .next t)
    (hp : ∀ e st u, p u → p (raise e st u)) : p t := by
  rcases StepEnd.finish_cases h with rfl | ⟨e, st, u, rfl, rfl⟩
  · exact hr
  · exact hp e st u hr

/-- A property that the release of buffers keeps too passes from the four steps to FRAME (R181). -/
theorem StepEnd.EndsIn.finishFrame {p : State → Prop} {r : StepEnd} {t : State} (hr : r.EndsIn p)
    (h : r.finishFrame = .next t) (hd : ∀ u, p u → p (releaseCf (releaseRaw u)))
    (hp : ∀ e st u, p u → p (raise e st (releaseAll u))) : p t := by
  rcases StepEnd.finishFrame_cases h with ⟨u, rfl, rfl⟩ | ⟨e, st, u, rfl, rfl⟩
  · exact hd u hr
  · exact hp e st u hr

theorem frameReadStep_frame (s : State) : (frameReadStep s).EndsIn fun u => u = { s with
    raw := u.raw, cf := u.cf, t0 := u.t0, t0Shape := u.t0Shape, t1 := u.t1, t1Shape := u.t1Shape
    frameIdx := u.frameIdx, probeRe := u.probeRe, probeIm := u.probeIm, probeV := u.probeV
    rem := u.rem, srcPlan := u.srcPlan, free := u.free } := by
  rcases frameReadStep_cases s with ⟨-, e⟩ | ⟨-, u, hr, e⟩ | ⟨-, u, hr, e⟩ | ⟨-, b, u, hr, e⟩ <;> rw [e]
  · rfl
  · rw [srcRead_env hr]; rfl
  · rw [srcRead_env hr]; rfl
  · rw [srcRead_env hr]; rfl

theorem deintStep_frame (s : State) : (deintStep s).EndsIn fun u => u = { s with cf := u.cf } := by
  rcases deintStep_cases s with ⟨-, e⟩ | ⟨-, -, e⟩ | ⟨-, -, -, e⟩ | ⟨-, -, _, -, e⟩ <;> rw [e] <;> trivial

theorem reshapeStep_frame (s : State) :
    (reshapeStep s).EndsIn fun u => u = { s with t0 := u.t0, t0Shape := u.t0Shape } := by
  rcases reshapeStep_cases s with ⟨-, e⟩ | ⟨-, -, e⟩ | ⟨-, -, -, -, e⟩ | ⟨-, -, -, _, -, e⟩ <;> rw [e] <;> trivial

theorem permuteStep_frame (s : State) :
    (permuteStep s).EndsIn fun u =>
      u = { s with t0 := u.t0, t0Shape := u.t0Shape, t1 := u.t1, t1Shape := u.t1Shape } := by
  rcases permuteStep_cases s with ⟨-, e⟩ | ⟨-, -, e⟩ | ⟨-, -, -, e⟩ | ⟨-, -, _, -, e⟩ <;> rw [e] <;> trivial

/-- The state with every field blanked that some step of a command writes: what is left are the registers of the host, the
mode, the error report, the queue, the reply and RAW_CAP. -/
def State.unwritten (s : State) : State :=
  { s with
    raw := .released, cf := .released, t0 := .released, t0Shape := .zero, t1 := .released, t1Shape := .zero
    frameIdx := 0, probeRe := 0, probeIm := 0, probeV := false, rem := [], srcPlan := [], free := 0 }

theorem frameReadStep_unwritten (s : State) : (frameReadStep s).EndsIn fun u => u.unwritten = s.unwritten :=
  (frameReadStep_frame s).mono fun u hu => by rw [hu]; rfl

theorem deintStep_unwritten (s : State) : (deintStep s).EndsIn fun u => u.unwritten = s.unwritten :=
  (deintStep_frame s).mono fun u hu => by rw [hu]; rfl

theorem reshapeStep_unwritten (s : State) : (reshapeStep s).EndsIn fun u => u.unwritten = s.unwritten :=
  (reshapeStep_frame s).mono fun u hu => by rw [hu]; rfl

theorem permuteStep_unwritten (s : State) : (permuteStep s).EndsIn fun u => u.unwritten = s.unwritten :=
  (permuteStep_frame s).mono fun u hu => by rw [hu]; rfl

theorem frameSteps_unwritten (s : State) : (frameSteps s).EndsIn fun u => u.unwritten = s.unwritten :=
  (((frameReadStep_unwritten s).andThen fun u hu => (deintStep_unwritten u).mono fun _ h => h.trans hu).andThen
    fun u hu => (reshapeStep_unwritten u).mono fun _ h => h.trans hu).andThen
    fun u hu => (permuteStep_unwritten u).mono fun _ h => h.trans hu

/-! ### What a command can do -/

/-- Everything a command that completes can do, from `s` to the last argument: nothing; ERRCLR's return from ERROR; PROBE's
capture or its clearing; the end of the steps of LOAD, DEINT, RESHAPE, PERMUTE or FRAME (R231). -/
inductive CommandEffect (s : State) : Instr → State → Prop
  | unchanged (i : Instr) : CommandEffect s i s
  | returned : CommandEffect s .errclr (returnFromError s)
  | cleared : CommandEffect s .probe (clearProbe s)
  | captured (x : ComplexSample) : CommandEffect s .probe { s with probeRe := x.re, probeIm := x.im, probeV := true }
  | load {t : State} (hm : s.mode = .ready) (hd : s.done = false) (h : (frameReadStep s).finish = .next t) :
      CommandEffect s .load t
  | deint {t : State} (hm : s.mode = .ready) (h : (deintStep s).finish = .next t) : CommandEffect s .deint t
  | reshape {t : State} (hm : s.mode = .ready) (h : (reshapeStep s).finish = .next t) : CommandEffect s .reshape t
  | permute {t : State} (hm : s.mode = .ready) (h : (permuteStep s).finish = .next t) : CommandEffect s .permute t
  | frame {t : State} (hm : s.mode = .ready) (hd : s.done = false) (h : (frameSteps s).finishFrame = .next t) :
      CommandEffect s .frame t

theorem commandEffect_of_eq {i : Instr} {s t : State} (hs : exec i s = .next s) (h : exec i s = .next t) :
    CommandEffect s i t := by
  rw [hs] at h
  cases h
  exact .unchanged i

theorem exec_effect {i : Instr} {s t : State} (h : exec i s = .next t) : CommandEffect s i t := by
  by_cases hm : s.mode = .ready
  · cases i with
    | nop => exact commandEffect_of_eq (whenReady_of_ready hm) h
    | load =>
      cases hd : s.done
      · exact .load hm hd (exec_load_of_ready hm hd ▸ h)
      · exact commandEffect_of_eq (exec_of_done hd (.inl rfl)) h
    | deint => exact .deint hm (exec_deint_of_ready hm ▸ h)
    | reshape => exact .reshape hm (exec_reshape_of_ready hm ▸ h)
    | permute => exact .permute hm (exec_permute_of_ready hm ▸ h)
    | frame =>
      cases hd : s.done
      · exact .frame hm hd (exec_frame_of_ready hm hd ▸ h)
      · exact commandEffect_of_eq (exec_of_done hd (.inr rfl)) h
    | probe =>
      have hp : execProbe s = .next t := h
      rcases execProbe_cases s hm with ⟨-, e⟩ | ⟨-, -, ⟨-, e⟩ | ⟨x, -, e⟩⟩ <;> rw [e] at hp <;> cases hp
      · exact .cleared
      · exact .captured x
    | errclr => exact commandEffect_of_eq (by simp only [exec, execErrclr, hm]) h
  · by_cases hi : i = .errclr
    · subst hi
      simp only [exec, execErrclr] at h
      split at h <;> cases h
      · exact .unchanged _
      · exact .returned
      · exact .unchanged _
    · exact commandEffect_of_eq (exec_of_not_ready hm hi) h

/-- The registers that only the host writes: the configuration and the probe's operands (R39, R46). -/
def State.hostRegs (s : State) : List Word :=
  [s.cfgF, s.cfgN0, s.cfgN1, s.cfgN2, s.cfgTotal, s.probeSel, s.pidx0, s.pidx1, s.pidx2, s.pidx3]

/-- No command writes a register of the host. -/
theorem exec_hostRegs {i : Instr} {s t : State} (h : exec i s = .next t) : t.hostRegs = s.hostRegs := by
  have host {r : StepEnd} (hr : r.EndsIn fun u => u.unwritten = s.unwritten) :
      r.EndsIn fun u => u.hostRegs = s.hostRegs :=
    hr.mono fun _ hu => congrArg (·.hostRegs) hu
  cases exec_effect h with
  | unchanged => rfl
  | returned => rfl
  | cleared => rfl
  | captured => rfl
  | load _ _ h => exact (host (frameReadStep_unwritten s)).finish h fun _ _ _ hu => hu
  | deint _ h => exact (host (deintStep_unwritten s)).finish h fun _ _ _ hu => hu
  | reshape _ h => exact (host (reshapeStep_unwritten s)).finish h fun _ _ _ hu => hu
  | permute _ h => exact (host (permuteStep_unwritten s)).finish h fun _ _ _ hu => hu
  | frame _ _ h => exact (host (frameSteps_unwritten s)).finishFrame h (fun _ hu => hu) fun _ _ _ hu => hu

end Sys2Proof.Machine

open Sys2Proof Sys2Proof.Machine

/-- Settles O48: `exec_hostRegs`, register by register. -/
theorem commandsNeverWriteConfiguration : Obligations.CommandsNeverWriteConfiguration := by
  intro s t i h
  simpa [State.hostRegs] using exec_hostRegs h
end

section
/-! ### Every valid buffer derives from the one resident frame (R42 item 5) -/

namespace Sys2Proof.Machine

variable {s : State}

/-- With neither RAW nor T0 valid, as FRAME and a reset leave them, nothing is claimed of T1 (R181). -/
theorem oneFrame_of_not_resident (h0 : s.t0.valid = false) (hr : s.raw.valid = false) : OneFrame s where
  t0FromRaw := fun hv => by simp [h0] at hv
  t1FromRaw := fun _ hv => by simp [hr] at hv

/-- With neither tensor valid, as the frame read step leaves them, nothing is claimed of RAW. -/
theorem oneFrame_of_no_tensor (h0 : s.t0.valid = false) (h1 : s.t1.valid = false) : OneFrame s where
  t0FromRaw := fun hv => by simp [h0] at hv
  t1FromRaw := fun hv => by simp [h1] at hv

theorem oneFrame_raise {e : ErrorKind} {st : Stage} (h : OneFrame s) : OneFrame (raise e st s) := { h with }

theorem oneFrame_takeInput {rest : List Input} (h : OneFrame s) : OneFrame (takeInput rest s) := { h with }

theorem oneFrame_writeReg {r : Reg} {v : Word} (h : OneFrame s) : OneFrame (s.writeReg r v) := by
  cases r <;> exact { h with }

theorem oneFrame_releaseT0 (h : OneFrame s) : OneFrame (releaseT0 s) := { h with t0FromRaw := fun hv => nomatch hv }

theorem oneFrame_releaseT1 (h : OneFrame s) : OneFrame (releaseT1 s) := { h with t1FromRaw := fun hv => nomatch hv }

theorem frameReadStep_oneFrame (s : State) : (frameReadStep s).EndsIn OneFrame := by
  have noTensor {u : State} {n : Nat} {a : SrcAnswer} (hr : srcRead n (clearProbe (releaseAll s)) = (a, u)) :
      u.t0.valid = false ∧ u.t1.valid = false :=
    have henv := srcRead_env hr
    ⟨congrArg (·.t0.valid) henv, congrArg (·.t1.valid) henv⟩
  rcases frameReadStep_cases s with ⟨-, e⟩ | ⟨-, u, hr, e⟩ | ⟨-, u, hr, e⟩ | ⟨-, b, u, hr, e⟩ <;> rw [e]
  · exact oneFrame_of_no_tensor rfl rfl
  · exact oneFrame_of_no_tensor (noTensor hr).1 (noTensor hr).2
  · exact oneFrame_of_no_tensor (noTensor hr).1 (noTensor hr).2
  · exact oneFrame_of_no_tensor (noTensor hr).1 (noTensor hr).2

/-- DEINT changes CF alone, of which `Invariants.cfFromRaw` speaks. -/
theorem deintStep_oneFrame (h : OneFrame s) : (deintStep s).EndsIn OneFrame :=
  (deintStep_frame s).mono fun u hu => by rw [hu]; exact { h with }

/-- RESHAPE copies CF, which holds the deinterleaved elements of RAW. -/
theorem reshapeStep_oneFrame (hI : Invariants s) (h : OneFrame s) : (reshapeStep s).EndsIn OneFrame := by
  rcases reshapeStep_cases s with ⟨-, e⟩ | ⟨-, -, e⟩ | ⟨-, -, -, -, e⟩ | ⟨hv, -, -, xs, hc, e⟩ <;> rw [e]
  · exact h
  · exact oneFrame_releaseT0 h
  · trivial
  · obtain ⟨hraw, h4, hlen, -, hel⟩ := hI.cfFromRaw hv
    have copy : ∀ n < s.cf.len.toNat, (Buffer.produced s.cf.len xs).get? n = deintElement s.raw n := fun n hn =>
      (get?_produced_of_collect hc rfl hn).trans (hel n hn)
    exact { h with t0FromRaw := fun _ => ⟨hraw, h4, hlen, copy⟩ }

/-- PERMUTE moves the elements of T0, which are those of the resident frame. -/
theorem permuteStep_oneFrame (h : OneFrame s) : (permuteStep s).EndsIn OneFrame := by
  rcases permuteStep_cases s with ⟨-, e⟩ | ⟨-, -, e⟩ | ⟨-, -, -, e⟩ | ⟨hv, heq, xs, hc, e⟩ <;> rw [e]
  · exact h
  · exact oneFrame_releaseT0 (oneFrame_releaseT1 h)
  · trivial
  · obtain ⟨-, h4, hlen, hel⟩ := h.t0FromRaw hv
    have moved : ∀ n < s.t0.len.toNat,
        (Buffer.produced s.t0.len xs).get? n = deintElement s.raw (permSource s.t0Shape n) := fun n hn =>
      have hsrc : permSource s.t0Shape n < s.t0.len.toNat := heq ▸ permSource_lt_card (heq.symm ▸ hn)
      (get?_produced_of_collect hc rfl hn).trans (hel _ hsrc)
    exact {
      t0FromRaw := fun hv => nomatch hv
      t1FromRaw := fun _ _ => ⟨h4, hlen, s.t0Shape, rfl, moved⟩ }

/-- The permute step consumes T0 (R164 item 4). -/
theorem permuteStep_done_t0 {u : State} (h : permuteStep s = .done u) : u.t0 = .released := by
  rcases permuteStep_cases s with ⟨-, e⟩ | ⟨-, -, e⟩ | ⟨-, -, -, e⟩ | ⟨-, -, _, -, e⟩ <;> rw [e] at h <;> cases h
  rfl

theorem StepEnd.andThen_eq_done {r : StepEnd} {f : State → StepEnd} {u : State} (h : r.andThen f = .done u) :
    ∃ v, r = .done v ∧ f v = .done u := by
  cases r with
  | done v => exact ⟨v, rfl, h⟩
  | raised => cases h
  | noValue => cases h

/-- After FRAME neither RAW nor T0 is valid, however it ends (R181). -/
theorem frameSteps_oneFrame {t : State} (h : (frameSteps s).finishFrame = .next t) : OneFrame t := by
  rcases StepEnd.finishFrame_cases h with ⟨u, hu, rfl⟩ | ⟨e, st, u, -, rfl⟩
  · obtain ⟨v, -, hv⟩ := StepEnd.andThen_eq_done hu
    exact oneFrame_of_not_resident (congrArg Buffer.valid (permuteStep_done_t0 hv)) rfl
  · exact oneFrame_of_not_resident rfl rfl

theorem exec_oneFrame {i : Instr} {t : State} (hI : Invariants s) (h : OneFrame s) (ht : exec i s = .next t) :
    OneFrame t := by
  cases exec_effect ht with
  | unchanged => exact h
  | returned => exact { h with }
  | cleared => exact { h with }
  | captured => exact { h with }
  | load _ _ ht => exact (frameReadStep_oneFrame s).finish ht fun _ _ _ => oneFrame_raise
  | deint _ ht => exact (deintStep_oneFrame h).finish ht fun _ _ _ => oneFrame_raise
  | reshape _ ht => exact (reshapeStep_oneFrame hI h).finish ht fun _ _ _ => oneFrame_raise
  | permute _ ht => exact (permuteStep_oneFrame h).finish ht fun _ _ _ => oneFrame_raise
  | frame _ _ ht => exact frameSteps_oneFrame ht

end Sys2Proof.Machine

open Sys2Proof Sys2Proof.Machine

/-- Settles O42: only commands change a buffer or a shape, and each keeps the relation to RAW (`exec_oneFrame`). -/
theorem stepKeepsOneFrame : Obligations.StepKeepsOneFrame := by
  intro s t hI h ht
  cases hx : s.inputs with
  | nil =>
    rw [step_nil hx] at ht
    cases ht
    exact h
  | cons x rest =>
    have hT : OneFrame (takeInput rest s) := oneFrame_takeInput h
    rcases step_cases hx ht with ⟨-, rfl⟩ | ⟨_, _, _, -, rfl⟩ | ⟨_, _, _, -, -, rfl⟩ | ⟨_, _, -, rfl⟩
      | ⟨_, _, -, -, hi⟩ | ⟨_, _, -, -, rfl⟩
    · exact oneFrame_of_not_resident rfl rfl
    · exact { hT with }
    · exact oneFrame_writeReg hT
    · exact hT
    · exact exec_oneFrame (invariants_takeInput hI) hT hi
    · split
      · exact oneFrame_raise hT
      · exact hT
end

section
/-! ### The frame counter (R31, R180) -/

namespace Sys2Proof.Machine

/-- The frame fits RAW and the source can deliver it, or there is nothing to deliver (R71, R180). -/
def State.FrameDeliverable (s : State) : Prop :=
  s.cfgF.toNat ≤ s.rawCap ∧ (s.cfgF.toNat = 0 ∨ (s.sourceReadable = true ∧ 2 * s.cfgF.toNat ≤ s.rem.length))

/-- From `s` to `u` the counter has gone up exactly if the frame could be read in full. -/
def CountsFrame (s u : State) : Prop :=
  (s.FrameDeliverable → u.frameIdx = s.frameIdx + 1) ∧ (¬ s.FrameDeliverable → u.frameIdx = s.frameIdx)

theorem frameReadStep_counts (s : State) : (frameReadStep s).EndsIn (CountsFrame s) := by
  have failed {u : State} (hu : u.frameIdx = s.frameIdx) (hn : ∀ v, frameReadStep s ≠ .done v) : CountsFrame s u :=
    ⟨fun hd => (frameReadStep_done_iff.mpr hd).elim fun v hv => absurd hv (hn v), fun _ => hu⟩
  rcases frameReadStep_cases s with ⟨-, e⟩ | ⟨-, u, hr, e⟩ | ⟨-, u, hr, e⟩ | ⟨-, b, u, hr, e⟩ <;> rw [e]
  · exact failed rfl (by simp [e])
  · exact failed (by rw [srcRead_env hr]; rfl) (by simp [e])
  · exact failed (by rw [srcRead_env hr]; rfl) (by simp [e])
  · exact ⟨fun _ => rfl, fun hn => absurd (frameReadStep_done_iff.mp ⟨_, e⟩) hn⟩

theorem deintStep_frameIdx (s : State) : (deintStep s).EndsIn fun u => u.frameIdx = s.frameIdx :=
  (deintStep_frame s).mono fun u hu => by rw [hu]

theorem reshapeStep_frameIdx (s : State) : (reshapeStep s).EndsIn fun u => u.frameIdx = s.frameIdx :=
  (reshapeStep_frame s).mono fun u hu => by rw [hu]

theorem permuteStep_frameIdx (s : State) : (permuteStep s).EndsIn fun u => u.frameIdx = s.frameIdx :=
  (permuteStep_frame s).mono fun u hu => by rw [hu]

theorem CountsFrame.of_frameIdx_eq {s u v : State} (h : CountsFrame s u) (hv : v.frameIdx = u.frameIdx) :
    CountsFrame s v :=
  ⟨fun hd => hv.trans (h.1 hd), fun hd => hv.trans (h.2 hd)⟩

/-- The later steps of FRAME do not count (R181). -/
theorem frameSteps_counts (s : State) : (frameSteps s).EndsIn (CountsFrame s) :=
  (((frameReadStep_counts s).andThen fun u hu => (deintStep_frameIdx u).mono fun _ => hu.of_frameIdx_eq).andThen
    fun u hu => (reshapeStep_frameIdx u).mono fun _ => hu.of_frameIdx_eq).andThen
    fun u hu => (permuteStep_frameIdx u).mono fun _ => hu.of_frameIdx_eq

/-- LOAD and FRAME below the frame limit count the frame they read in full. -/
theorem exec_countsFrame {i : Instr} {s t : State} (hi : i = .load ∨ i = .frame) (hm : s.mode = .ready)
    (hd : s.done = false) (h : exec i s = .next t) : CountsFrame s t := by
  rcases hi with rfl | rfl
  · rw [exec_load_of_ready hm hd] at h
    exact (frameReadStep_counts s).finish h fun _ _ _ hu => hu
  · rw [exec_frame_of_ready hm hd] at h
    exact (frameSteps_counts s).finishFrame h (fun _ hu => hu) fun _ _ _ hu => hu

/-- A command that does not read a frame in full leaves the counter. -/
theorem exec_frameIdx {i : Instr} {s t : State} (h : exec i s = .next t)
    (hn : ¬ ((i = .load ∨ i = .frame) ∧ s.mode = .ready ∧ s.done = false ∧ s.FrameDeliverable)) :
    t.frameIdx = s.frameIdx := by
  cases exec_effect h with
  | unchanged => rfl
  | returned => rfl
  | cleared => rfl
  | captured => rfl
  | load hm hd => exact (exec_countsFrame (.inl rfl) hm hd h).2 fun hf => hn ⟨.inl rfl, hm, hd, hf⟩
  | deint _ h => exact (deintStep_frameIdx s).finish h fun _ _ _ hu => hu
  | reshape _ h => exact (reshapeStep_frameIdx s).finish h fun _ _ _ hu => hu
  | permute _ h => exact (permuteStep_frameIdx s).finish h fun _ _ _ hu => hu
  | frame hm hd => exact (exec_countsFrame (.inr rfl) hm hd h).2 fun hf => hn ⟨.inr rfl, hm, hd, hf⟩

/-! ### A word decodes to no command but its own (R91) -/

theorem opcode_of_decodeOpcode {op : BitVec 8} {i : Instr} (h : decodeOpcode op = some i) : opcode i = op := by
  unfold decodeOpcode at h
  split at h <;> cases h <;> exact BitVec.eq_of_toNat_eq (Eq.symm ‹op.toNat = _›)

theorem encode_of_decode {c : Word} {i : Instr} (h : decode c = .ok i) : encode i = c := by
  unfold decode at h
  split at h
  · rename_i hz
    split at h
    · rename_i j hj
      cases h
      have hzero : c.extractLsb' 8 24 = 0#24 := by simpa [CommandWord.zeroFieldOk] using hz
      rw [encode, opcode_of_decodeOpcode hj, ← hzero]
      exact (BitVec.extractLsb'_append_extractLsb'_eq_extractLsb' (by decide)).trans BitVec.extractLsb'_eq_self
    · cases h
  · cases h

end Sys2Proof.Machine

open Sys2Proof Sys2Proof.Machine

/-- Settles O47: `CountsFrame` for LOAD and FRAME, `exec_frameIdx` for every other command, and no other event but reset
touches the counter. -/
theorem frameIndexCountsFramesRead : Obligations.FrameIndexCountsFramesRead := by
  intro s t x rest hx h
  have done_iff : s.done = false ↔ s.frameIdx.toNat < s.cfgTotal.toNat := by simp [State.done]
  refine ⟨?_, ?_, ?_⟩
  · rintro rfl
    rw [step_cons hx] at h
    cases h
    rfl
  · intro hw hm hlt hcap hsrc
    have counted {c : Word} {i : Instr} (hi : i = .load ∨ i = .frame) (hc : decode c = .ok i)
        (hxc : x = .memWrite 0 c) : t.frameIdx = s.frameIdx + 1 := by
      subst hxc
      rw [step_command hx hc] at h
      exact (exec_countsFrame (s := takeInput rest s) hi hm (done_iff.mpr hlt) h).1 ⟨hcap, hsrc⟩
    have hsucc : t.frameIdx = s.frameIdx + 1 :=
      hw.elim (counted (i := .load) (.inl rfl) (by decide)) (counted (i := .frame) (.inr rfl) (by decide))
    rw [hsucc, frameIdx_succ_toNat (done_iff.mpr hlt)]
  · intro hr hn
    rcases step_cases hx h with ⟨rfl, -⟩ | ⟨_, _, _, -, rfl⟩ | ⟨_, _, _, -, -, rfl⟩ | ⟨_, _, -, rfl⟩
      | ⟨c, i, rfl, hc, hi⟩ | ⟨_, _, -, -, rfl⟩
    · exact absurd rfl hr
    · rfl
    · exact State.writeReg_frameIdx _ _ _
    · rfl
    · refine exec_frameIdx (s := takeInput rest s) hi fun ⟨hload, hm, hd, hcap, hsrc⟩ =>
        hn ⟨?_, hm, done_iff.mp hd, hcap, hsrc⟩
      have hword := encode_of_decode hc
      rcases hload with rfl | rfl
      · exact .inl (hword ▸ rfl)
      · exact .inr (hword ▸ rfl)
    · split <;> rfl
end

section
/-! ### What FRAME delivers depends on the configuration, the source and RAW_CAP alone (R20, R277) -/

namespace Sys2Proof.Machine

/-- The part of the state in which a frame is processed and delivered: the rest is blanked. -/
def State.delivered (s : State) : State :=
  { State.reset with
    cfgF := s.cfgF, cfgN0 := s.cfgN0, cfgN1 := s.cfgN1, cfgN2 := s.cfgN2, mode := s.mode, rawCap := s.rawCap
    rem := s.rem, raw := s.raw, cf := s.cf, t0 := s.t0, t0Shape := s.t0Shape, t1 := s.t1, t1Shape := s.t1Shape }

/-- The delivered part of the state in which a step ends. -/
def StepEnd.delivered : StepEnd → StepEnd
  | .done u => .done u.delivered
  | .raised e st u => .raised e st u.delivered
  | .noValue => .noValue

theorem StepEnd.delivered_andThen {r : StepEnd} {f : State → StepEnd} (hf : ∀ u, (f u).delivered = f u.delivered) :
    (r.andThen f).delivered = r.delivered.andThen f := by
  cases r with
  | done u => exact hf u
  | raised => rfl
  | noValue => rfl

theorem deintStep_delivered (s : State) : (deintStep s).delivered = deintStep s.delivered := by
  have hraw : s.delivered.raw = s.raw := rfl
  simp only [deintStep, hraw]
  split
  · split
    · split <;> rfl
    · rfl
  · rfl

theorem reshapeStep_delivered (s : State) : (reshapeStep s).delivered = reshapeStep s.delivered := by
  have hcf : s.delivered.cf = s.cf := rfl
  have hP : geometryProduct s.delivered = geometryProduct s := rfl
  simp only [reshapeStep, hcf, hP]
  split
  · split
    · rfl
    · split <;> rfl
  · rfl

theorem permuteStep_delivered (s : State) : (permuteStep s).delivered = permuteStep s.delivered := by
  have ht0 : s.delivered.t0 = s.t0 := rfl
  have hshape : s.delivered.t0Shape = s.t0Shape := rfl
  simp only [permuteStep, ht0, hshape]
  split
  · split
    · split <;> rfl
    · rfl
  · rfl

theorem State.delivered_afterRequest (s : State) : s.afterRequest.delivered = s.delivered := by
  unfold State.afterRequest
  split <;> rfl

theorem State.delivered_rem (s : State) (r : List Byte) :
    { s with rem := r }.delivered = { s.delivered with rem := r } := rfl

/-- The source answers by its readability and its bytes alone (R71). -/
theorem srcRead_delivered {n : Nat} {s s' : State} (h : s'.delivered = s.delivered)
    (hr : s'.sourceReadable = s.sourceReadable) :
    (srcRead n s').1 = (srcRead n s).1 ∧ (srcRead n s').2.delivered = (srcRead n s).2.delivered := by
  have hrem : s'.rem = s.rem := congrArg (·.rem) h
  simp only [srcRead, hr, hrem]
  split
  · exact ⟨rfl, h⟩
  · split
    · split <;> exact ⟨rfl, by simp only [State.delivered_rem, State.delivered_afterRequest, h]⟩
    · exact ⟨rfl, by simp only [State.delivered_afterRequest, h]⟩

/-- The frame read step releases whatever a buffer held before (R180 step 2). -/
theorem frameReadStep_delivered {s s' : State} (h : (releaseAll s').delivered = (releaseAll s).delivered)
    (hr : s'.sourceReadable = s.sourceReadable) : (frameReadStep s').delivered = (frameReadStep s).delivered := by
  have hF : s'.cfgF = s.cfgF := congrArg (·.cfgF) h
  have hcap : s'.rawCap = s.rawCap := congrArg (·.rawCap) h
  obtain ⟨hans, hst⟩ := srcRead_delivered (n := 2 * s.cfgF.toNat) (s := clearProbe (releaseAll s))
    (s' := clearProbe (releaseAll s')) h hr
  simp only [frameReadStep, hF, hcap]
  split
  · exact congrArg (StepEnd.raised _ _) h
  · generalize srcRead _ (clearProbe (releaseAll s')) = p' at *
    generalize srcRead _ (clearProbe (releaseAll s)) = p at *
    obtain ⟨a', u'⟩ := p'
    obtain ⟨a, u⟩ := p
    obtain rfl : a' = a := hans
    cases a' with
    | bytes b => exact congrArg (fun v => StepEnd.done { v with raw := .produced s.cfgF (samplesOf b) }) hst
    | short => exact congrArg (StepEnd.raised _ _) hst
    | unavailable => exact congrArg (StepEnd.raised _ _) hst

theorem frameSteps_delivered {s s' : State} (h : (releaseAll s').delivered = (releaseAll s).delivered)
    (hr : s'.sourceReadable = s.sourceReadable) : (frameSteps s').delivered = (frameSteps s).delivered := by
  have byRead (u : State) : (frameSteps u).delivered
      = (((frameReadStep u).delivered.andThen deintStep).andThen reshapeStep).andThen permuteStep := by
    rw [frameSteps, StepEnd.delivered_andThen permuteStep_delivered, StepEnd.delivered_andThen reshapeStep_delivered,
      StepEnd.delivered_andThen deintStep_delivered]
  rw [byRead, byRead, frameReadStep_delivered h hr]

/-- Steps that end alike deliver alike: the state FRAME ends in, and the error where the steps raised one (R181). -/
theorem StepEnd.finishFrame_delivered {r r' : StepEnd} {t t' : State} (hr : r'.delivered = r.delivered)
    (h : r.finishFrame = .next t) (h' : r'.finishFrame = .next t') :
    t'.delivered = t.delivered
      ∧ ((∃ u, r = .done u ∧ t.mode = u.mode) ∨ (t'.errCode = t.errCode ∧ t'.errStage = t.errStage)) := by
  rcases StepEnd.finishFrame_cases h with ⟨u, rfl, rfl⟩ | ⟨e, st, u, rfl, rfl⟩ <;>
    rcases StepEnd.finishFrame_cases h' with ⟨u', rfl, rfl⟩ | ⟨e', st', u', rfl, rfl⟩
  · have hu : u'.delivered = u.delivered := StepEnd.done.inj hr
    exact ⟨congrArg (fun v => releaseCf (releaseRaw v)) hu, .inl ⟨u, rfl, rfl⟩⟩
  · cases hr
  · cases hr
  · obtain ⟨rfl, rfl, hu⟩ := StepEnd.raised.inj hr
    exact ⟨congrArg (fun v => { releaseAll v with mode := e'.modeAfter }) hu, .inr ⟨rfl, rfl⟩⟩

end Sys2Proof.Machine

open Sys2Proof Sys2Proof.Machine

/-- Settles O29: the four steps run alike on what they are given (`frameSteps_delivered`), and a FRAME that does not fail
ends in READY. -/
theorem framesCarryNoStateAcross : Obligations.FramesCarryNoStateAcross := by
  intro s s' t t' hm hm' hlt hlt' hF hN0 hN1 hN2 hcap hrem hread h h'
  have hd : s.done = false := by simpa [State.done] using hlt
  have hd' : s'.done = false := by simpa [State.done] using hlt'
  rw [exec_frame_of_ready hm hd] at h
  rw [exec_frame_of_ready hm' hd'] at h'
  have hin : (releaseAll s').delivered = (releaseAll s).delivered := by
    simp only [State.delivered, releaseAll, hF, hN0, hN1, hN2, hcap, hrem, hm, hm']
  obtain ⟨hdel, hreport⟩ := StepEnd.finishFrame_delivered (frameSteps_delivered hin hread) h h'
  refine ⟨congrArg (·.raw) hdel, congrArg (·.cf) hdel, congrArg (·.t0) hdel, congrArg (·.t0Shape) hdel,
    congrArg (·.t1) hdel, congrArg (·.t1Shape) hdel, congrArg (·.rem) hdel, congrArg (·.mode) hdel, fun hne => ?_⟩
  rcases hreport with ⟨u, hu, hmode⟩ | hreport
  · have hkept : u.unwritten = s.unwritten := (frameSteps_unwritten s).of_done hu
    have hmode' : u.mode = s.mode := congrArg (·.mode) hkept
    exact absurd (hmode.trans (hmode'.trans hm)) hne
  · exact hreport
end

section
/-! ### The STATUS view (R26) and window accesses without a value (R38, R65) -/

namespace Sys2Proof.Machine

/-- The six one-bit fields of STATUS, from bit 0 up (R26). -/
theorem status_bits (s : State) :
    s.status.getLsbD 0 = s.raw.valid ∧ s.status.getLsbD 1 = s.cf.valid ∧ s.status.getLsbD 2 = s.t0.valid
      ∧ s.status.getLsbD 3 = s.t1.valid ∧ s.status.getLsbD 4 = s.probeV ∧ s.status.getLsbD 5 = s.done := by
  refine ⟨?_, ?_, ?_, ?_, ?_, ?_⟩ <;> unfold State.status
  · rw [BitVec.getLsbD_append]; simp
  · iterate 2 rw [BitVec.getLsbD_append]
    simp
  · iterate 3 rw [BitVec.getLsbD_append]
    simp
  · iterate 4 rw [BitVec.getLsbD_append]
    simp
  · iterate 5 rw [BitVec.getLsbD_append]
    simp
  · iterate 6 rw [BitVec.getLsbD_append]
    simp

/-- Below MODE stand the six bits and the two reserved ones (R26). -/
theorem status_reserved_low (s : State) : s.status.extractLsb' 6 2 = 0#2 := by
  iterate 6 refine (BitVec.extractLsb'_append_eq_of_le (by decide)).trans ?_
  exact (BitVec.extractLsb'_append_eq_of_add_le (by decide)).trans BitVec.extractLsb'_eq_self

theorem status_mode (s : State) : s.status.extractLsb' 8 2 = s.mode.bits := by
  iterate 7 refine (BitVec.extractLsb'_append_eq_of_le (by decide)).trans ?_
  exact (BitVec.extractLsb'_append_eq_of_add_le (by decide)).trans BitVec.extractLsb'_eq_self

theorem status_reserved_high (s : State) : s.status.extractLsb' 10 22 = 0#22 := by
  iterate 8 refine (BitVec.extractLsb'_append_eq_of_le (by decide)).trans ?_
  exact BitVec.extractLsb'_eq_self

/-- A read of a register returns its value and changes nothing else (R213). -/
theorem step_readReg {s : State} {rest : List Input} {a : WordIndex} (r : Reg) (ha : a = r.word)
    (hx : s.inputs = .memRead a :: rest) :
    step s = .next { s with inputs := rest, reply := some ((takeInput rest s).readReg r) } := by
  rw [step_cons hx, ha]
  simp only [serve, serveRead, target_word]
  rfl

/-- A write of a register that executes no command (R213). -/
theorem step_writeReg {s : State} {rest : List Input} {a : WordIndex} {v : Word} (r : Reg) (ha : a = r.word)
    (hr : r ≠ .cmd) (hx : s.inputs = .memWrite a v :: rest) : step s = .next ((takeInput rest s).writeReg r v) := by
  rw [step_cons hx, ha]
  simp only [serve, serveWrite, target_word, hr, if_false]

/-- A read of a window location without a value stops the model (R38, R65). -/
theorem step_readWindow_none {s : State} {rest : List Input} {a : WordIndex} {b : Window} {w : Nat}
    (ha : target a = .window b w) (hw : windowWord b w (takeInput rest s) = none)
    (hx : s.inputs = .memRead a :: rest) : step s = .fault .windowNoValue := by
  rw [step_cons hx]
  simp only [serve, serveRead, ha, hw]

/-- A write to a window is ignored (R65). -/
theorem step_writeWindow {s : State} {rest : List Input} {a : WordIndex} {v : Word} {b : Window} {w : Nat}
    (ha : target a = .window b w) (hx : s.inputs = .memWrite a v :: rest) :
    step s = .next { s with inputs := rest, reply := none } := by
  rw [step_cons hx]
  simp only [serve, serveWrite, ha]
  rfl

theorem windowWord_raw_eq_none {s : State} {w : Nat}
    (h : s.raw.valid = false ∨ s.raw.len.toNat ≤ w ∨ s.rawCap ≤ w) : windowWord .raw w s = none := by
  unfold windowWord
  split
  · rename_i hlt
    have hlt' : w < s.rawCap := hlt
    have hnone : s.raw.get? w = none := Buffer.get?_eq_none (h.imp_right fun h => h.resolve_right (by omega))
    simp only [hnone, Option.map_none]
  · rfl

theorem complexWord_eq_none {b : Buffer ComplexSample} {w : Nat} (h : b.valid = false ∨ b.len.toNat ≤ w / 2) :
    complexWord b w = none := by
  unfold complexWord
  rw [Buffer.get?_eq_none h]

end Sys2Proof.Machine

open Sys2Proof Sys2Proof.Machine

/-- Settles O30: the view's bits by their places in the concatenation; the port finds the register at its address. -/
theorem statusViewFields : Obligations.StatusViewFields := by
  refine ⟨by decide, fun s => ?_⟩
  obtain ⟨hraw, hcf, ht0, ht1, hprobe, hdone⟩ := status_bits s
  refine ⟨hraw, hcf, ht0, ht1, hprobe, ?_, status_reserved_low s, ?_, status_reserved_high s,
    fun rest => ⟨step_readReg .status (by decide), fun v => step_writeReg .status (by decide) (by decide)⟩⟩
  · rw [hdone, State.done, decide_eq_true_eq]
  · rw [status_mode]
    cases s.mode <;> rfl

/-- Settles O35: each window answers no word there (`windowWord`), and the port ignores the write. -/
theorem windowAccessesWithoutValue : Obligations.WindowAccessesWithoutValue := by
  intro s rest w hw
  have tensor {a : WordIndex} {b : Window} {B : Buffer ComplexSample} (ha : target a = .window b w)
      (hword : windowWord b w (takeInput rest s) = if w < 2 * (s.rawCap / 2) then complexWord B w else none)
      (h : B.valid = false ∨ B.len.toNat ≤ w / 2 ∨ 2 * (s.rawCap / 2) ≤ w) (hx : s.inputs = .memRead a :: rest) :
      step s = .fault .windowNoValue := by
    refine step_readWindow_none ha (hword.trans ?_) hx
    split
    · exact complexWord_eq_none (h.imp_right fun h => h.resolve_right (by omega))
    · rfl
  refine ⟨fun h hx => ?_, fun base B hB h hx => ?_, fun base v hbase hx => ?_⟩
  · exact step_readWindow_none (target_rawWindow hw) (windowWord_raw_eq_none (s := takeInput rest s) h) hx
  · simp only [List.mem_cons, Prod.mk.injEq, List.not_mem_nil, or_false] at hB
    rcases hB with ⟨rfl, rfl⟩ | ⟨rfl, rfl⟩ | ⟨rfl, rfl⟩
    · exact tensor (target_cfWindow hw) rfl h hx
    · exact tensor (target_t0Window hw) rfl h hx
    · exact tensor (target_t1Window hw) rfl h hx
  · simp only [List.mem_cons, List.not_mem_nil, or_false] at hbase
    rcases hbase with rfl | rfl | rfl | rfl
    · exact step_writeWindow (target_rawWindow hw) hx
    · exact step_writeWindow (target_cfWindow hw) hx
    · exact step_writeWindow (target_t0Window hw) hx
    · exact step_writeWindow (target_t1Window hw) hx
end

section
/-! ### Row-major linearisation and its inverse (R72, R73) -/

namespace Sys2Proof.Machine

theorem Shape.inRange_iff {S : Shape} {i j k l : Nat} :
    S.inRange i j k l = true ↔ i < S.n0.toNat ∧ j < S.n1.toNat ∧ k < S.n2.toNat ∧ l < S.n3.toNat := by
  simp [Shape.inRange, and_assoc]

/-- The formulas of R73 as one division per axis, the last axis first. -/
theorem unlin_eq_div (S : Shape) (n : Nat) :
    unlin S n = (n / S.n3.toNat / S.n2.toNat / S.n1.toNat, n / S.n3.toNat / S.n2.toNat % S.n1.toNat,
      n / S.n3.toNat % S.n2.toNat, n % S.n3.toNat) := by
  simp only [unlin, Nat.div_div_eq_div_mul, Nat.mul_comm, Nat.mul_left_comm]

/-- The first axis needs no bound: it is what the divisions leave. -/
theorem unlin_lin {S : Shape} {i j k l : Nat} (hj : j < S.n1.toNat) (hk : k < S.n2.toNat) (hl : l < S.n3.toNat) :
    unlin S (lin S i j k l) = (i, j, k, l) := by
  have quot {x y b : Nat} (hy : y < b) : (x * b + y) / b = x := by
    rw [Nat.mul_comm, Nat.mul_add_div (Nat.zero_lt_of_lt hy), Nat.div_eq_of_lt hy, Nat.add_zero]
  simp only [unlin_eq_div, lin, quot hl, quot hk, quot hj, Nat.mul_add_mod_of_lt hl, Nat.mul_add_mod_of_lt hk,
    Nat.mul_add_mod_of_lt hj]

/-- Quotient and remainder put every flat index together again, in range or not. -/
theorem lin_unlin {S : Shape} {n i j k l : Nat} (h : unlin S n = (i, j, k, l)) : lin S i j k l = n := by
  rw [unlin_eq_div] at h
  cases h
  simp only [lin, Nat.div_add_mod']

end Sys2Proof.Machine

open Sys2Proof Sys2Proof.Machine

/-- Settles O19: `unlin_lin` on the tuples, `lin_unlin` on the flat indices; `lin_lt_card` and `unlin_inRange` keep both
within their ranges. -/
theorem linearisationIsABijection : Obligations.LinearisationIsABijection := by
  refine fun S => ⟨fun i j k l hr => ?_, fun n hn => ?_⟩
  · obtain ⟨-, hj, hk, hl⟩ := Shape.inRange_iff.mp hr
    exact ⟨lin_lt_card_of_inRange hr, unlin_lin hj hk hl⟩
  · obtain ⟨⟨i, j, k, l⟩, h⟩ : ∃ p, unlin S n = p := ⟨_, rfl⟩
    exact ⟨i, j, k, l, h, Shape.inRange_iff.mpr (unlin_inRange hn h), lin_unlin h⟩
end

section
/-! ### What the port answers at a window location with a value and at an unassigned address (R63, R64, R66, R70) -/

namespace Sys2Proof.Machine

/-- In canonical form the element of a valid buffer below its length is the one the list holds there (R37). -/
theorem Buffer.exists_get? {α : Type} {b : Buffer α} {n : Nat} (hwf : b.wf = true) (hv : b.valid = true)
    (hn : n < b.len.toNat) : ∃ x, b.data[n]? = some x ∧ b.get? n = some x := by
  obtain ⟨x, hx⟩ := Option.isSome_iff_exists.mp (Buffer.get?_isSome hwf hv hn)
  exact ⟨x, Buffer.get?_of_valid hv hn ▸ hx, hx⟩

theorem windowWord_raw_eq_some {s : State} {w : Nat} {x : Sample} (hw : w < s.rawCap) (hx : s.raw.get? w = some x) :
    windowWord .raw w s = some (x.signExtend 32) := by
  have hext : w < windowExtent .raw s := hw
  simp only [windowWord, if_pos hext, hx, Option.map_some]

theorem complexWord_even {b : Buffer ComplexSample} {e : Nat} {x : ComplexSample} (hx : b.get? e = some x) :
    complexWord b (2 * e) = some x.re := by
  have hdiv : 2 * e / 2 = e := by omega
  simp [complexWord, hdiv, hx]

theorem complexWord_odd {b : Buffer ComplexSample} {e : Nat} {x : ComplexSample} (hx : b.get? e = some x) :
    complexWord b (2 * e + 1) = some x.im := by
  have hdiv : (2 * e + 1) / 2 = e := by omega
  simp [complexWord, hdiv, hx]

/-- A read of a window location with a value returns the value and changes nothing else (R63, R64, R70). -/
theorem step_readWindow_some {s : State} {rest : List Input} {a : WordIndex} {b : Window} {w : Nat} {v : Word}
    (ha : target a = .window b w) (hw : windowWord b w (takeInput rest s) = some v)
    (hx : s.inputs = .memRead a :: rest) : step s = .next { s with inputs := rest, reply := some v } := by
  rw [step_cons hx]
  simp only [serve, serveRead, ha, hw]
  rfl

/-- A write to an unassigned address is ignored (R66). -/
theorem step_writeUnassigned {s : State} {rest : List Input} {a : WordIndex} {v : Word}
    (ha : target a = .unassigned) (hx : s.inputs = .memWrite a v :: rest) :
    step s = .next { s with inputs := rest, reply := none } := by
  rw [step_cons hx]
  simp only [serve, serveWrite, ha]
  rfl

/-- A read of an unassigned address draws the next free value (R66; log 7). -/
theorem step_readUnassigned {s : State} {rest : List Input} {a : WordIndex}
    (ha : target a = .unassigned) (hx : s.inputs = .memRead a :: rest) :
    step s = .next { s with inputs := rest, reply := some (Config.unassignedWord s.free), free := s.free + 1 } := by
  rw [step_cons hx]
  simp only [serve, serveRead, ha]
  rfl

end Sys2Proof.Machine

open Sys2Proof Sys2Proof.Machine

/-- Settles O33: below its length RAW lies within the window, and sign extension keeps the value. -/
theorem rawWindowSignExtends : Obligations.RawWindowSignExtends := by
  intro s rest w hI hv hw hx
  obtain ⟨hwf, -⟩ := Memory.wf_iff.mp hI.memory
  obtain ⟨x, hdata, hget⟩ := Buffer.exists_get? hwf hv hw
  have hcap : w < s.rawCap := Nat.lt_of_lt_of_le hw (hI.rawFits hv)
  have hregion : w < 2 ^ 26 := Nat.lt_of_lt_of_le hcap hI.capBound
  exact ⟨x, x.signExtend 32, hdata, BitVec.toInt_signExtend_of_le (by decide),
    step_readWindow_some (target_rawWindow hregion) (windowWord_raw_eq_some (s := takeInput rest s) hcap hget) hx⟩

/-- Settles O34: each of the three buffers is at most RAW_CAP/2 long, so both words of an element lie within its window. -/
theorem complexWindowsReadElements : Obligations.ComplexWindowsReadElements := by
  intro s rest e base B hI hB hv he
  obtain ⟨-, hcf, ht0, ht1, -, -⟩ := Memory.wf_iff.mp hI.memory
  have hcap := hI.capBound
  obtain ⟨b, ha, hword, hwf, hfit⟩ : ∃ b : Window,
      (∀ {w}, w < 2 ^ 26 → target (BitVec.ofNat 30 (base + w)) = .window b w)
      ∧ (∀ w, windowWord b w (takeInput rest s) = if w < 2 * (s.rawCap / 2) then complexWord B w else none)
      ∧ B.wf = true ∧ B.len.toNat ≤ s.rawCap / 2 := by
    simp only [List.mem_cons, Prod.mk.injEq, List.not_mem_nil, or_false] at hB
    rcases hB with ⟨rfl, rfl⟩ | ⟨rfl, rfl⟩ | ⟨rfl, rfl⟩
    · obtain ⟨-, -, -, hfit, -⟩ := hI.cfFromRaw hv
      exact ⟨.cf, target_cfWindow, fun _ => rfl, hcf, hfit⟩
    · exact ⟨.t0, target_t0Window, fun _ => rfl, ht0, (hI.t0Fits hv).2⟩
    · exact ⟨.t1, target_t1Window, fun _ => rfl, ht1, (hI.t1Fits hv).2⟩
  have read {w : Nat} {v : Word} (hw : w < 2 * (s.rawCap / 2)) (hval : complexWord B w = some v)
      (hx : s.inputs = .memRead (BitVec.ofNat 30 (base + w)) :: rest) :
      step s = .next { s with inputs := rest, reply := some v } :=
    step_readWindow_some (ha (by omega)) (by rw [hword, if_pos hw, hval]) hx
  obtain ⟨x, hdata, hget⟩ := Buffer.exists_get? hwf hv he
  refine ⟨x, hdata, read (by omega) (complexWord_even hget), ?_⟩
  rw [Nat.add_assoc]
  exact read (by omega) (complexWord_odd hget)

/-- Settles O36: the address map finds neither a register nor a window there (`target_unassigned`). -/
theorem unassignedAddresses : Obligations.UnassignedAddresses := by
  intro s rest a h
  have ha : target a = .unassigned := target_unassigned h
  exact ⟨fun v => step_writeUnassigned ha, fun hx => ⟨_, step_readUnassigned ha hx⟩⟩

/-- Settles O37: of the things a step can do (`step_cases`), a read does the one that changes only the reply and the count of
free values. -/
theorem readsHaveNoSideEffect : Obligations.ReadsHaveNoSideEffect := by
  intro s t a rest hx h
  rcases step_cases hx h with ⟨hr, -⟩ | ⟨_, _, _, -, rfl⟩ | ⟨_, _, _, hw, -⟩ | ⟨_, _, hw, -⟩ | ⟨_, _, hw, -⟩
    | ⟨_, _, hw, -⟩
  · cases hr
  · rfl
  · cases hw
  · cases hw
  · cases hw
  · cases hw
end

section
/-! ### The frame source (R71, R272, R283) -/

namespace Sys2Proof.Machine

theorem srcRead_of_unreadable {n : Nat} {s : State} (hn : 0 < n) (hr : s.sourceReadable = false) :
    srcRead n s = (.unavailable, s.afterRequest) := by
  simp [srcRead, hn.ne', hr]

theorem srcRead_of_le {n : Nat} {s : State} (hn : 0 < n) (hr : s.sourceReadable = true) (hl : n ≤ s.rem.length) :
    srcRead n s = (.bytes (s.rem.take n), { s.afterRequest with rem := s.rem.drop n }) := by
  simp [srcRead, hn.ne', hr, hl]

theorem srcRead_of_short {n : Nat} {s : State} (hn : 0 < n) (hr : s.sourceReadable = true) (hl : s.rem.length < n) :
    srcRead n s = (.short, { s.afterRequest with rem := [] }) := by
  simp [srcRead, hn.ne', hr, Nat.not_le_of_lt hl]

/-- What a state may keep of the undelivered bytes `r` after one frame read of `n` bytes: all, all but `n`, or none (R71). -/
def State.KeepsOf (r : List Byte) (n : Nat) (u : State) : Prop := u.rem = r ∨ u.rem = r.drop n ∨ u.rem = []

theorem State.KeepsOf.suffix {r : List Byte} {n : Nat} {u : State} (h : u.KeepsOf r n) : u.rem <:+ r := by
  rcases h with e | e | e
  · exact e ▸ List.suffix_rfl
  · exact e ▸ List.drop_suffix n r
  · exact e ▸ List.nil_suffix

theorem State.KeepsOf.of_rem_eq {r : List Byte} {n : Nat} {u v : State} (h : u.KeepsOf r n) (hv : v.rem = u.rem) :
    v.KeepsOf r n := by
  unfold State.KeepsOf
  rwa [hv]

theorem srcRead_keeps {n : Nat} {s u : State} {a : SrcAnswer} (h : srcRead n s = (a, u)) : u.KeepsOf s.rem n := by
  rcases srcRead_cases n s with ⟨-, e⟩ | ⟨-, -, e⟩ | ⟨-, -, -, e⟩ | ⟨-, -, -, e⟩ <;> rw [e] at h <;> cases h
  · exact .inl rfl
  · exact .inl (State.afterRequest_rem s)
  · exact .inr (.inl rfl)
  · exact .inr (.inr rfl)

/-- The frame read takes its bytes from the source as one request of `2*CFG_F` (R180 step 4). -/
theorem frameReadStep_keeps (s : State) : (frameReadStep s).EndsIn (State.KeepsOf s.rem (2 * s.cfgF.toNat)) := by
  rcases frameReadStep_cases s with ⟨-, e⟩ | ⟨-, u, hr, e⟩ | ⟨-, u, hr, e⟩ | ⟨-, b, u, hr, e⟩ <;> rw [e]
  · exact .inl rfl
  · exact srcRead_keeps (s := clearProbe (releaseAll s)) hr
  · exact srcRead_keeps (s := clearProbe (releaseAll s)) hr
  · exact (srcRead_keeps (s := clearProbe (releaseAll s)) hr).of_rem_eq rfl

theorem deintStep_rem (s : State) : (deintStep s).EndsIn fun u => u.rem = s.rem :=
  (deintStep_frame s).mono fun u hu => by rw [hu]

theorem reshapeStep_rem (s : State) : (reshapeStep s).EndsIn fun u => u.rem = s.rem :=
  (reshapeStep_frame s).mono fun u hu => by rw [hu]

theorem permuteStep_rem (s : State) : (permuteStep s).EndsIn fun u => u.rem = s.rem :=
  (permuteStep_frame s).mono fun u hu => by rw [hu]

/-- The later steps of FRAME do not read the source (R181). -/
theorem frameSteps_keeps (s : State) : (frameSteps s).EndsIn (State.KeepsOf s.rem (2 * s.cfgF.toNat)) :=
  (((frameReadStep_keeps s).andThen fun u hu => (deintStep_rem u).mono fun _ => hu.of_rem_eq).andThen
    fun u hu => (reshapeStep_rem u).mono fun _ => hu.of_rem_eq).andThen
    fun u hu => (permuteStep_rem u).mono fun _ => hu.of_rem_eq

/-- Only LOAD and FRAME take bytes from the source, by one frame read (R71, R283). -/
theorem exec_rem {i : Instr} {s t : State} (h : exec i s = .next t) :
    t.rem = s.rem ∨ ((i = .load ∨ i = .frame) ∧ t.KeepsOf s.rem (2 * s.cfgF.toNat)) := by
  cases exec_effect h with
  | unchanged => exact .inl rfl
  | returned => exact .inl rfl
  | cleared => exact .inl rfl
  | captured => exact .inl rfl
  | load _ _ h => exact .inr ⟨.inl rfl, (frameReadStep_keeps s).finish h fun _ _ _ hu => hu⟩
  | deint _ h => exact .inl ((deintStep_rem s).finish h fun _ _ _ hu => hu)
  | reshape _ h => exact .inl ((reshapeStep_rem s).finish h fun _ _ _ hu => hu)
  | permute _ h => exact .inl ((permuteStep_rem s).finish h fun _ _ _ hu => hu)
  | frame _ _ h => exact .inr ⟨.inr rfl, (frameSteps_keeps s).finishFrame h (fun _ hu => hu) fun _ _ _ hu => hu⟩

end Sys2Proof.Machine

open Sys2Proof Sys2Proof.Machine

/-- Settles O12: one equation of `srcRead` per answer; what it leaves unchanged is `srcRead_env`. -/
theorem srcReadAnswers : Obligations.SrcReadAnswers := by
  refine fun n s => ⟨?_, fun hn hr => ?_, fun hn hr hl => ?_, fun hn hr hl => ?_⟩
  · rintro rfl
    rfl
  · have e := srcRead_of_unreadable hn hr
    exact ⟨_, e, (srcRead_env e).trans (by rw [State.afterRequest_rem])⟩
  · have e := srcRead_of_le hn hr hl
    exact ⟨_, e, srcRead_env e⟩
  · have e := srcRead_of_short hn hr hl
    exact ⟨_, e, srcRead_env e⟩

/-- Settles O49: of the events only a command can touch the source (`step_cases`), and of the commands only LOAD and FRAME
(`exec_rem`), whose words are 1 and 5. -/
theorem consumedBytesDoNotComeBack : Obligations.ConsumedBytesDoNotComeBack := by
  intro s t x rest hx h
  have unread {p : Prop} (e : t.rem = s.rem) : t.rem <:+ s.rem ∧ (t.rem = s.rem ∨ p) := ⟨e ▸ List.suffix_rfl, .inl e⟩
  rcases step_cases hx h with ⟨-, rfl⟩ | ⟨_, _, _, -, rfl⟩ | ⟨_, _, _, -, -, rfl⟩ | ⟨_, _, -, rfl⟩
    | ⟨c, i, rfl, hc, hi⟩ | ⟨_, _, -, -, rfl⟩
  · exact unread rfl
  · exact unread rfl
  · exact unread (State.writeReg_rem _ _ _)
  · exact unread rfl
  · rcases exec_rem hi with e | ⟨hread, hkeeps⟩
    · exact unread e
    · refine ⟨hkeeps.suffix, hkeeps.imp_right fun hrem => ⟨?_, hrem⟩⟩
      have hword := encode_of_decode hc
      rcases hread with rfl | rfl
      · exact .inl (hword ▸ rfl)
      · exact .inr (hword ▸ rfl)
  · refine unread ?_
    split <;> rfl
end

section
/-! ### Decode and encode: legal words are the commands' words, illegal words are all others (R90 to R92) -/

namespace Sys2Proof.Machine

theorem formatC (i : Instr) : Laws.FormatC.Statement i := by
  cases i with
  | nop => exact Laws.FormatC.nop
  | load => exact Laws.FormatC.load
  | deint => exact Laws.FormatC.deint
  | reshape => exact Laws.FormatC.reshape
  | permute => exact Laws.FormatC.permute
  | frame => exact Laws.FormatC.frame
  | probe => exact Laws.FormatC.probe
  | errclr => exact Laws.FormatC.errclr

theorem zeroFieldOk_iff {c : Word} : CommandWord.zeroFieldOk c = true ↔ c.extractLsb' 8 24 = 0#24 := beq_iff_eq

theorem decodeOpcode_opcode (i : Instr) : decodeOpcode (opcode i) = some i := by cases i <;> rfl

/-- The unassigned opcodes (R92). -/
theorem decodeOpcode_eq_none_iff {op : BitVec 8} : decodeOpcode op = none ↔ 0x08 ≤ op.toNat := by
  unfold decodeOpcode
  match op.toNat with
  | 0 | 1 | 2 | 3 | 4 | 5 | 6 | 7 => simp
  | n + 8 => simp

theorem decode_encode (i : Instr) : decode (encode i) = .ok i := by
  obtain ⟨hzero, hop, -, -⟩ := formatC i
  simp only [decode, zeroFieldOk_iff.mpr hzero, if_true, hop, decodeOpcode_opcode]

/-- A command has one word (R91). -/
theorem decode_eq_ok_iff {c : Word} {i : Instr} : decode c = .ok i ↔ c = encode i :=
  ⟨fun h => (encode_of_decode h).symm, fun h => h ▸ decode_encode i⟩

/-- A word is illegal by its fields (R92). -/
theorem decode_error_iff {c : Word} :
    (∃ e, decode c = .error e) ↔ c.extractLsb' 8 24 ≠ 0#24 ∨ 0x08 ≤ (c.extractLsb' 0 8).toNat := by
  rw [← decodeOpcode_eq_none_iff, ne_eq, ← zeroFieldOk_iff, decode]
  by_cases hz : CommandWord.zeroFieldOk c = true
  · cases hop : decodeOpcode (c.extractLsb' 0 8) <;> simp [hz]
  · simp [hz]

/-- A word is illegal exactly when it is no command's word (R91, R92). -/
theorem decode_error_iff_ne_encode {c : Word} : (∃ e, decode c = .error e) ↔ ∀ i, c ≠ encode i := by
  simp only [ne_eq, ← decode_eq_ok_iff]
  cases decode c with
  | ok i => simp
  | error e => simp

/-- A write of an illegal word to CMD raises IllegalCommand, where MODE does not discard it (R92). -/
theorem step_illegal {s : State} {c : Word} {rest : List Input} {e : DecodeError}
    (hx : s.inputs = .memWrite 0 c :: rest) (hc : decode c = .error e) :
    step s = whenReady (takeInput rest s) (.next (raise .illegalCommand .decode (takeInput rest s))) := by
  have hcmd : target 0 = .reg .cmd := target_word .cmd
  rw [step_cons hx]
  simp only [serve, serveWrite, hcmd, if_true, serveCommand, hc]

end Sys2Proof.Machine

open Sys2Proof Sys2Proof.Machine

/-- Settles O3: `decode_encode` for commands, `encode_of_decode` for words. -/
theorem decodeInvertsEncode : Obligations.DecodeInvertsEncode :=
  ⟨decode_encode, fun _ _ => encode_of_decode⟩

/-- Settles O2: each match value is the word of its command, and a command has one word. -/
theorem opcodeMapIsExact : Obligations.OpcodeMapIsExact := fun _ =>
  ⟨decode_eq_ok_iff, decode_eq_ok_iff, decode_eq_ok_iff, decode_eq_ok_iff, decode_eq_ok_iff, decode_eq_ok_iff,
    decode_eq_ok_iff, decode_eq_ok_iff⟩

/-- Settles O4: which words are illegal by the decoder's two checks; what a write of one does by `step_illegal`. -/
theorem illegalWordsRaiseOrAreDiscarded : Obligations.IllegalWordsRaiseOrAreDiscarded := by
  refine fun c => ⟨decode_error_iff, decode_error_iff_ne_encode, fun s rest hx hfields => ?_⟩
  obtain ⟨e, hc⟩ := decode_error_iff.mpr hfields
  rw [step_illegal hx hc]
  exact ⟨whenReady_of_ready (s := takeInput rest s), whenReady_of_not_ready (s := takeInput rest s)⟩

/-- Settles O1: the eight words by the opcode map, the two others by evaluation. -/
theorem writtenWordsDecode : Obligations.WrittenWordsDecode :=
  ⟨decode_encode .nop, decode_encode .load, decode_encode .deint, decode_encode .reshape, decode_encode .permute,
    decode_encode .frame, decode_encode .probe, decode_encode .errclr, by decide, by decide⟩
end

section
/-! ### The conversion of a sample is exact (R122) -/

namespace Sys2Proof.Machine

theorem topBit_eq {m e : Nat} (hle : 2 ^ e ≤ m) (hlt : m < 2 ^ (e + 1)) : ∀ {b : Nat}, e ≤ b → topBit m b = e
  | 0, hb => (Nat.le_zero.mp hb).symm
  | b + 1, hb => by
    rcases Nat.eq_or_lt_of_le hb with rfl | hlt'
    · exact if_pos hle
    · have hbig : m < 2 ^ (b + 1) := Nat.lt_of_lt_of_le hlt (Nat.pow_le_pow_right (by decide) hlt')
      exact (if_neg (Nat.not_le.mpr hbig)).trans (topBit_eq hle hlt (Nat.le_of_lt_succ hlt'))

theorem natAbs_toInt_le (v : Sample) : v.toInt.natAbs ≤ 2 ^ 15 := by
  have hlo := v.le_toInt
  have hhi := v.toInt_lt
  omega

/-- The top bit of a magnitude is at most bit 15, that of -32768. -/
theorem exponent_le {v : Sample} {e : Nat} (hle : 2 ^ e ≤ v.toInt.natAbs) : e ≤ 15 :=
  (Nat.pow_le_pow_iff_right (by decide)).mp (hle.trans (natAbs_toInt_le v))

/-- The bits below the top bit fit the fraction field. -/
theorem fraction_lt {m e : Nat} (he : e ≤ 23) (hle : 2 ^ e ≤ m) (hlt : m < 2 ^ (e + 1)) :
    (m - 2 ^ e) * 2 ^ (23 - e) < 2 ^ 23 :=
  calc (m - 2 ^ e) * 2 ^ (23 - e)
      < 2 ^ e * 2 ^ (23 - e) := Nat.mul_lt_mul_of_pos_right (by omega) (Nat.two_pow_pos _)
    _ = 2 ^ 23 := by rw [← Nat.pow_add, Nat.add_sub_cancel' he]

/-- With the hidden bit in front, the fraction shifted by the exponent is the magnitude, shifted left by 23. -/
theorem significand_mul_pow {m e : Nat} (he : e ≤ 23) (hle : 2 ^ e ≤ m) :
    (2 ^ 23 + (m - 2 ^ e) * 2 ^ (23 - e)) * 2 ^ e = m * 2 ^ 23 := by
  have hsplit : 2 ^ e * 2 ^ (23 - e) = 2 ^ 23 := by rw [← Nat.pow_add, Nat.add_sub_cancel' he]
  calc (2 ^ 23 + (m - 2 ^ e) * 2 ^ (23 - e)) * 2 ^ e
      = (2 ^ e + (m - 2 ^ e)) * (2 ^ e * 2 ^ (23 - e)) := by rw [← hsplit]; ring
    _ = m * 2 ^ 23 := by rw [hsplit, Nat.add_sub_cancel' hle]

@[simp] theorem f32OfI16_zero : f32OfI16 0 = 0 := by decide

/-- The formula of R122; it does not overflow the 32 bits. -/
theorem f32OfI16_toNat {v : Sample} {e : Nat} (hle : 2 ^ e ≤ v.toInt.natAbs) (hlt : v.toInt.natAbs < 2 ^ (e + 1)) :
    (f32OfI16 v).toNat = (if v.toInt < 0 then 2 ^ 31 else 0) + (e + 127) * 2 ^ 23
      + (v.toInt.natAbs - 2 ^ e) * 2 ^ (23 - e) := by
  have he : e ≤ 15 := exponent_le hle
  have hne : v.toInt.natAbs ≠ 0 := Nat.ne_of_gt (Nat.lt_of_lt_of_le (Nat.two_pow_pos e) hle)
  have hfrac := fraction_lt (by omega) hle hlt
  simp only [f32OfI16, if_neg hne, topBit_eq hle hlt he, BitVec.toNat_ofNat]
  split <;> omega

/-- A nonzero sample as sign, exponent and fraction: the pattern made of them, and their value (R122). -/
theorem f32OfI16_parts {v : Sample} (hv : v ≠ 0) : ∃ e f : Nat, e ≤ 15 ∧ f < 2 ^ 23
    ∧ (f32OfI16 v).toNat = (if v.toInt < 0 then 2 ^ 31 else 0) + (e + 127) * 2 ^ 23 + f
    ∧ (2 ^ 23 + f) * 2 ^ e = v.toInt.natAbs * 2 ^ 23 := by
  have hne : v.toInt.natAbs ≠ 0 := fun h => hv (BitVec.eq_of_toInt_eq (Int.natAbs_eq_zero.mp h))
  have hle := Nat.pow_log_le_self 2 hne
  have hlt := Nat.lt_pow_succ_log_self (b := 2) (by decide) v.toInt.natAbs
  have he : Nat.log 2 v.toInt.natAbs ≤ 15 := exponent_le hle
  exact ⟨_, _, he, fraction_lt (by omega) hle hlt, f32OfI16_toNat hle hlt, significand_mul_pow (by omega) hle⟩

/-- The three fields of a binary32 pattern, from its value as a natural number (R95). -/
theorem binary32_fields {w : Word} {neg : Prop} [Decidable neg] {E f : Nat} (hE : E < 2 ^ 8) (hf : f < 2 ^ 23)
    (hw : w.toNat = (if neg then 2 ^ 31 else 0) + E * 2 ^ 23 + f) :
    (w.getLsbD 31 = true ↔ neg) ∧ (w.extractLsb' 23 8).toNat = E ∧ (w.extractLsb' 0 23).toNat = f := by
  refine ⟨?_, ?_, ?_⟩
  · have hmsb : w.getLsbD 31 = decide (2 ^ 31 ≤ w.toNat) := (BitVec.msb_eq_getLsbD_last w).symm.trans w.msb_eq_decide
    rw [hmsb, decide_eq_true_iff]
    split at hw
    · exact iff_of_true (by omega) ‹neg›
    · exact iff_of_false (by omega) ‹¬neg›
  · rw [BitVec.extractLsb'_toNat, Nat.shiftRight_eq_div_pow]
    split at hw <;> omega
  · rw [BitVec.extractLsb'_toNat, Nat.shiftRight_zero]
    split at hw <;> omega

/-- The pattern of a nonzero sample is a normal number of its sign and value (R122). -/
theorem f32OfI16_exact {v : Sample} (hv : v ≠ 0) :
    ((f32OfI16 v).getLsbD 31 = true ↔ v.toInt < 0)
    ∧ 127 ≤ ((f32OfI16 v).extractLsb' 23 8).toNat ∧ ((f32OfI16 v).extractLsb' 23 8).toNat ≤ 142
    ∧ (2 ^ 23 + ((f32OfI16 v).extractLsb' 0 23).toNat) * 2 ^ (((f32OfI16 v).extractLsb' 23 8).toNat - 127)
        = v.toInt.natAbs * 2 ^ 23 := by
  obtain ⟨e, f, he, hf, hw, hvalue⟩ := f32OfI16_parts hv
  obtain ⟨hsign, hexp, hfrac⟩ := binary32_fields (by omega) hf hw
  rw [hexp, hfrac, Nat.add_sub_cancel]
  exact ⟨hsign, by omega, by omega, hvalue⟩

theorem f32OfI16_ne_zero {v : Sample} (hv : v ≠ 0) : f32OfI16 v ≠ 0 := fun h => by
  obtain ⟨-, hexp, -⟩ := f32OfI16_exact hv
  simp [h] at hexp

/-- The pattern gives back the sign and the magnitude, and these the sample. -/
theorem f32OfI16_injective : Function.Injective f32OfI16 := by
  intro v w h
  by_cases hv : v = 0
  · subst hv
    by_contra hw
    exact f32OfI16_ne_zero (Ne.symm hw) (h.symm.trans f32OfI16_zero)
  · have hw : w ≠ 0 := fun hw => f32OfI16_ne_zero hv (h.trans (hw ▸ f32OfI16_zero))
    obtain ⟨hsign, -, -, hvalue⟩ := f32OfI16_exact hv
    obtain ⟨hsign', -, -, hvalue'⟩ := f32OfI16_exact hw
    rw [h] at hsign hvalue
    have hneg : v.toInt < 0 ↔ w.toInt < 0 := hsign.symm.trans hsign'
    have habs : v.toInt.natAbs = w.toInt.natAbs :=
      Nat.eq_of_mul_eq_mul_right (by decide) (hvalue.symm.trans hvalue')
    exact BitVec.eq_of_toInt_eq (by omega)

end Sys2Proof.Machine

open Sys2Proof Sys2Proof.Machine

/-- Settles O15: the fields by `f32OfI16_exact`, the formula by `f32OfI16_toNat`. -/
theorem conversionIsExactAndInjective : Obligations.ConversionIsExactAndInjective :=
  ⟨f32OfI16_zero, fun _ => f32OfI16_exact, fun _ _ => f32OfI16_toNat, fun _ _ h => f32OfI16_injective h⟩
end

section
/-! ### The frame that DEINT makes (R121, R123) -/

namespace Sys2Proof.Machine

/-- Row `r` of the table (0, 2, 1, 3): elements `2q + r` take their parts from samples `r` and `r + 2` of the quartet (R120). -/
theorem deintTab_row {r : Nat} (hr : r < 2) : deintTab (2 * r) = r ∧ deintTab (2 * r + 1) = r + 2 := by
  interval_cases r <;> exact ⟨rfl, rfl⟩

/-- A read of a buffer whose elements all hold a value. -/
theorem Buffer.get?_eq_getD {α : Type} {b : Buffer α} (hv : b.valid = true) (hlen : b.data.length = b.len.toNat)
    {n : Nat} (hn : n < b.len.toNat) (d : α) : b.get? n = some (b.data.getD n d) := by
  have hn' : n < b.data.length := hlen ▸ hn
  rw [Buffer.get?_of_valid hv hn, List.getElem?_eq_getElem hn', List.getD_eq_getElem _ _ hn']

/-- The length of a valid buffer in canonical form is the number of its elements (R37). -/
theorem Buffer.length_data {α : Type} {b : Buffer α} (hwf : b.wf = true) (hv : b.valid = true) :
    b.data.length = b.len.toNat := by
  rcases Buffer.wf_iff.mp hwf with ⟨-, hlen⟩ | rfl
  · exact hlen
  · cases hv

theorem Buffer.eq_of_parts {α : Type} {b b' : Buffer α} (hv : b.valid = b'.valid) (hl : b.len = b'.len)
    (hd : b.data = b'.data) : b = b' :=
  (Buffer.mk.injEq ..).mpr ⟨hv, hl, hd⟩

/-- Element `2q + r` of the ComplexFrame, from samples `4q + r` and `4q + 2 + r` (R121 step 5). -/
theorem deintElement_eq {raw : Buffer Sample} (hv : raw.valid = true) (hlen : raw.data.length = raw.len.toNat)
    {q r : Nat} (hq : q < raw.len.toNat / 4) (hr : r < 2) :
    deintElement raw (2 * q + r) = some
      { re := f32OfI16 (raw.data.getD (4 * q + r) 0), im := f32OfI16 (raw.data.getD (4 * q + (r + 2)) 0) } := by
  obtain ⟨hre, him⟩ := deintTab_row hr
  have hdiv : (2 * q + r) / 2 = q := by omega
  have hmod : (2 * q + r) % 2 = r := by omega
  simp only [deintElement, deintStride, hdiv, hmod, hre, him,
    Buffer.get?_eq_getD hv hlen (n := 4 * q + r) (by omega) 0,
    Buffer.get?_eq_getD hv hlen (n := 4 * q + (r + 2)) (by omega) 0]

variable {s t : State}

theorem exec_deint_of_stale (hm : s.mode = .ready) (hv : s.raw.valid = false) :
    exec .deint s = .next (raise .staleOperand .deint s) := by
  rcases deintStep_cases s with ⟨-, e⟩ | ⟨hv', -⟩ | ⟨hv', -⟩ | ⟨hv', -⟩
  · rw [exec_deint_of_ready hm, e, StepEnd.finish_raised]
  all_goals simp [hv] at hv'

theorem exec_deint_of_size (hm : s.mode = .ready) (hv : s.raw.valid = true) (h4 : s.raw.len.toNat % 4 ≠ 0) :
    exec .deint s = .next (raise .invalidFrameSize .deint (releaseCf s)) := by
  rcases deintStep_cases s with ⟨hv', -⟩ | ⟨-, -, e⟩ | ⟨-, h4', -⟩ | ⟨-, h4', -⟩
  · simp [hv] at hv'
  · rw [exec_deint_of_ready hm, e, StepEnd.finish_raised]
  all_goals exact absurd h4' h4

/-- On a complete frame of quartets DEINT writes CF, and CF alone, with the elements of `deintElement` (R121). -/
theorem exec_deint_of_quartets (hm : s.mode = .ready) (hv : s.raw.valid = true) (h4 : s.raw.len.toNat % 4 = 0)
    (hlen : s.raw.data.length = s.raw.len.toNat) :
    ∃ t, exec .deint s = .next t ∧ t.cf.valid = true ∧ t.cf.len.toNat = 2 * (s.raw.len.toNat / 4)
      ∧ (∀ m < 2 * (s.raw.len.toNat / 4), t.cf.get? m = deintElement s.raw m) ∧ t = { s with cf := t.cf } := by
  rcases deintStep_cases s with ⟨hv', -⟩ | ⟨-, h4', -⟩ | ⟨-, -, hnone, -⟩ | ⟨-, -, xs, hxs, e⟩
  · simp [hv] at hv'
  · exact absurd h4 h4'
  · have hwf : s.raw.wf = true := Buffer.wf_iff.mpr (.inl ⟨hv, hlen⟩)
    obtain ⟨xs, hxs⟩ := collect_isSome (f := deintElement s.raw) (n := 0) (k := 2 * (s.raw.len.toNat / 4))
      fun m hm => deintElement_isSome hwf hv (by omega)
    simp [hnone] at hxs
  · have hL : (BitVec.ofNat 32 (2 * (s.raw.len.toNat / 4))).toNat = 2 * (s.raw.len.toNat / 4) := by
      rw [BitVec.toNat_ofNat, Nat.mod_eq_of_lt]
      omega
    refine ⟨_, by rw [exec_deint_of_ready hm, e, StepEnd.finish_done], rfl, hL, fun m hm => ?_, rfl⟩
    exact get?_produced_of_collect hxs hL (hL.symm ▸ hm)

/-- Where a frame has been read, the resident frame's index is one below the counter (R42 item 5, R237). -/
theorem residentFrame_toNat (h : 1 ≤ s.frameIdx.toNat) : (residentFrame s).toNat = s.frameIdx.toNat - 1 := by
  have hne : s.frameIdx ≠ 0 := fun h0 => by simp [h0] at h
  rw [residentFrame, if_neg hne]
  bv_omega

/-- Sample `x` stands in CF: as a real part in the first half of its quartet, as an imaginary part in the second (R123 item 3). -/
theorem deint_places_sample (hm : s.mode = .ready) (hv : s.raw.valid = true)
    (hlen : s.raw.data.length = s.raw.len.toNat) (h4 : s.raw.len.toNat % 4 = 0) (h : exec .deint s = .next t)
    {x : Nat} (hx : x < s.raw.len.toNat) : ∃ e : ComplexSample,
      t.cf.get? (2 * (x / 4) + x % 4 % 2) = some e
      ∧ (if x % 4 < 2 then e.re else e.im) = f32OfI16 (s.raw.data.getD x 0) := by
  obtain ⟨u, hu, -, -, hget, -⟩ := exec_deint_of_quartets hm hv h4 hlen
  obtain rfl : u = t := Host.Outcome.next.inj (hu.symm.trans h)
  have hr : x % 4 % 2 < 2 := Nat.mod_lt _ (by decide)
  refine ⟨_, (hget _ (by omega)).trans (deintElement_eq hv hlen (by omega) hr), ?_⟩
  by_cases hhalf : x % 4 < 2
  · have hre : 4 * (x / 4) + x % 4 % 2 = x := by omega
    simp only [hhalf, if_true, hre]
  · have him : 4 * (x / 4) + (x % 4 % 2 + 2) = x := by omega
    simp only [hhalf, if_false, him]

end Sys2Proof.Machine

open Sys2Proof Sys2Proof.Machine

/-- Settles O14: the two errors and the frame of quartets, one lemma each. -/
theorem deintDeinterleavesByTheTable : Obligations.DeintDeinterleavesByTheTable := by
  refine ⟨decode_encode .deint, fun s => ⟨fun hm => exec_of_not_ready hm (by decide), exec_deint_of_stale,
    fun hm hv h4 => ⟨_, exec_deint_of_size hm hv h4, rfl, residentFrame_toNat (s := releaseCf s)⟩,
    fun hm hv h4 hlen => ?_⟩⟩
  obtain ⟨t, ht, hvalid, hcf, hget, hframe⟩ := exec_deint_of_quartets hm hv h4 hlen
  refine ⟨t, ht, hvalid, hcf, fun q hq => ⟨?_, ?_⟩, hframe⟩
  · exact (hget _ (by omega)).trans (deintElement_eq hv hlen hq (r := 0) (by decide))
  · exact (hget _ (by omega)).trans (deintElement_eq hv hlen hq (r := 1) (by decide))

/-- Settles O16: the samples by `deint_places_sample`; two frames with one CF then agree sample by sample, the conversion
being injective. -/
theorem deintLosesNoInformation : Obligations.DeintLosesNoInformation := by
  refine ⟨fun s t hm hv hlen h4 h x => deint_places_sample hm hv hlen h4 h,
    fun s s' t t' hm hm' hwf hwf' hv hv' h4 hlen h h' hcf => ?_⟩
  have hdata := Buffer.length_data hwf hv
  have hdata' := Buffer.length_data hwf' hv'
  have sample : ∀ x < s.raw.len.toNat, s.raw.data.getD x 0 = s'.raw.data.getD x 0 := fun x hx => by
    obtain ⟨e, he, hval⟩ := deint_places_sample hm hv hdata h4 h hx
    obtain ⟨e', he', hval'⟩ := deint_places_sample hm' hv' hdata' (hlen ▸ h4) h' (hlen ▸ hx)
    obtain rfl : e = e' := Option.some.inj (he.symm.trans (hcf ▸ he'))
    exact f32OfI16_injective (hval.symm.trans hval')
  have hsame : s.raw.data = s'.raw.data := List.ext_getElem (by rw [hdata, hdata', hlen]) fun x hx hx' => by
    rw [← List.getD_eq_getElem _ 0 hx, ← List.getD_eq_getElem _ 0 hx']
    exact sample x (hdata ▸ hx)
  exact Buffer.eq_of_parts (hv.trans hv'.symm) hlen.symm hsame
end

section
/-! ### The tensor that RESHAPE builds (R140 to R142) -/

namespace Sys2Proof.Machine

/-- The quotient of a length fits the shape register (R140 step 6). -/
theorem toNat_ofNat_div (L : Word) (P : Nat) : (BitVec.ofNat 32 (L.toNat / P)).toNat = L.toNat / P :=
  (BitVec.toNat_ofNat ..).trans (Nat.mod_eq_of_lt (Nat.lt_of_le_of_lt (Nat.div_le_self _ _) L.isLt))

/-- The flat index with each axis's stride multiplied out (R141). -/
theorem lin_eq_strides (S : Shape) (i j k l : Nat) :
    lin S i j k l = i * S.n1.toNat * S.n2.toNat * S.n3.toNat + j * S.n2.toNat * S.n3.toNat + k * S.n3.toNat + l := by
  simp only [lin, Nat.add_mul]

variable {s t : State}

theorem exec_reshape_of_stale (hm : s.mode = .ready) (hv : s.cf.valid = false) :
    exec .reshape s = .next (raise .staleOperand .reshape s) := by
  rcases reshapeStep_cases s with ⟨-, e⟩ | ⟨hv', -⟩ | ⟨hv', -⟩ | ⟨hv', -⟩
  · rw [exec_reshape_of_ready hm, e, StepEnd.finish_raised]
  all_goals simp [hv] at hv'

theorem exec_reshape_of_mismatch (hm : s.mode = .ready) (hv : s.cf.valid = true)
    (hP : geometryProduct s = 0 ∨ s.cf.len.toNat % geometryProduct s ≠ 0) :
    exec .reshape s = .next (raise .shapeMismatch .reshape (releaseT0 s)) := by
  rcases reshapeStep_cases s with ⟨hv', -⟩ | ⟨-, -, e⟩ | ⟨-, h0, hdiv, -⟩ | ⟨-, h0, hdiv, -⟩
  · simp [hv] at hv'
  · rw [exec_reshape_of_ready hm, e, StepEnd.finish_raised]
  all_goals exact absurd hP (not_or.mpr ⟨h0, not_not.mpr hdiv⟩)

/-- Where the geometry divides the ComplexFrame, RESHAPE writes T0 and its shape, and these alone: a copy of CF (R140). -/
theorem exec_reshape_of_divides (hm : s.mode = .ready) (hv : s.cf.valid = true)
    (hlen : s.cf.data.length = s.cf.len.toNat) (h0 : geometryProduct s ≠ 0)
    (hdiv : s.cf.len.toNat % geometryProduct s = 0) :
    ∃ t, exec .reshape s = .next t ∧ t.t0.valid = true ∧ t.t0.len = s.cf.len
      ∧ t.t0Shape = { n0 := s.cfgN0, n1 := s.cfgN1, n2 := s.cfgN2,
                      n3 := BitVec.ofNat 32 (s.cf.len.toNat / geometryProduct s) }
      ∧ (∀ n < s.cf.len.toNat, t.t0.get? n = s.cf.get? n)
      ∧ t = { s with t0 := t.t0, t0Shape := t.t0Shape } := by
  rcases reshapeStep_cases s with ⟨hv', -⟩ | ⟨-, hP, -⟩ | ⟨-, -, -, hnone, -⟩ | ⟨-, -, -, xs, hxs, e⟩
  · simp [hv] at hv'
  · exact absurd hP (not_or.mpr ⟨h0, not_not.mpr hdiv⟩)
  · have hwf : s.cf.wf = true := Buffer.wf_iff.mpr (.inl ⟨hv, hlen⟩)
    exact absurd hnone (collect_get?_ne_none (g := id) hwf hv fun _ hn => hn)
  · exact ⟨_, by rw [exec_reshape_of_ready hm, e, StepEnd.finish_done], rfl, rfl, rfl,
      fun _ hn => get?_produced_of_collect hxs rfl hn, rfl⟩

/-- A RESHAPE that ends in READY raised nothing: CF was valid and the geometry divided its length. -/
theorem divides_of_exec_reshape (hm : s.mode = .ready) (h : exec .reshape s = .next t) (ht : t.mode = .ready) :
    s.cf.valid = true ∧ geometryProduct s ≠ 0 ∧ s.cf.len.toNat % geometryProduct s = 0 := by
  have no_raise {e : ErrorKind} {st : Stage} {u : State} (hu : exec .reshape s = .next (raise e st u)) : False := by
    obtain rfl : raise e st u = t := Host.Outcome.next.inj (hu.symm.trans h)
    exact e.modeAfter_ne_ready ht
  rcases reshapeStep_cases s with ⟨hv, -⟩ | ⟨hv, hP, -⟩ | ⟨hv, h0, hdiv, -⟩ | ⟨hv, h0, hdiv, -⟩
  · exact (no_raise (exec_reshape_of_stale hm hv)).elim
  · exact (no_raise (exec_reshape_of_mismatch hm hv hP)).elim
  all_goals exact ⟨hv, h0, hdiv⟩

end Sys2Proof.Machine

open Sys2Proof Sys2Proof.Machine

/-- Settles O17: the two errors and the copy, one lemma each. -/
theorem reshapeCopiesUnderTheShape : Obligations.ReshapeCopiesUnderTheShape := by
  refine ⟨decode_encode .reshape, fun s => ⟨fun hm => exec_of_not_ready hm (by decide), exec_reshape_of_stale,
    fun hm hv hP => ⟨_, exec_reshape_of_mismatch hm hv hP, rfl, residentFrame_toNat (s := releaseT0 s)⟩,
    fun hm hv hlen h0 hdiv => ?_⟩⟩
  obtain ⟨t, ht, hvalid, hl, hshape, hget, hframe⟩ := exec_reshape_of_divides hm hv hlen h0 hdiv
  refine ⟨t, ht, hvalid, hl, ?_, ?_, ?_, ?_, fun n hn => (hget n hn).trans (Buffer.get?_eq_getD hv hlen hn _), hframe⟩
  all_goals rw [hshape]
  exact toNat_ofNat_div _ _

/-- Settles O18: the shape declares the length by `card_of_geometry`; an in-range tuple then has its flat index below it,
where T0 is a copy of CF. -/
theorem reshapeIndexMapping : Obligations.ReshapeIndexMapping := by
  intro s t hm hwf h ht
  obtain ⟨hv, h0, hdiv⟩ := divides_of_exec_reshape hm h ht
  obtain ⟨u, hu, -, hl, hshape, hget, -⟩ := exec_reshape_of_divides hm hv (Buffer.length_data hwf hv) h0 hdiv
  obtain rfl : u = t := Host.Outcome.next.inj (hu.symm.trans h)
  have hcard : u.t0Shape.card = s.cf.len.toNat := hshape ▸ card_of_geometry hdiv
  refine ⟨hl ▸ hcard, hl, fun i j k l d0 hd hi hj hk hld => ?_⟩
  have hn3 : u.t0Shape.n3.toNat = d0 := by
    rw [hshape, hd]
    exact toNat_ofNat_div _ _
  have hlt : lin u.t0Shape i j k l < s.cf.len.toNat :=
    hcard ▸ lin_lt_card (by rwa [hshape]) (by rwa [hshape]) (by rwa [hshape]) (by rwa [hn3])
  have hlin : lin u.t0Shape i j k l
      = i * s.cfgN1.toNat * s.cfgN2.toNat * d0 + j * s.cfgN2.toNat * d0 + k * d0 + l := by
    rw [lin_eq_strides, hn3, hshape]
  obtain ⟨x, -, hx⟩ := Buffer.exists_get? hwf hv hlt
  exact ⟨x, (hget _ hlt).trans hx, hlin ▸ hx⟩
end

section
/-! ### The reordering of the flat storage (R161) -/

namespace Sys2Proof.Machine

variable {S : Shape}

/-- The flat form of the reordering: tuple `(i, j, k, l)` of the permuted shape comes from tuple `(k, i, j, l)` of `S`. -/
theorem permSource_lin {i j k l : Nat} (hj : j < S.n2.toNat) (hk : k < S.n0.toNat) (hl : l < S.n3.toNat) :
    permSource S (lin S.permuted i j k l) = lin S k i j l := by
  have htuple : unlin S.permuted (lin S.permuted i j k l) = (i, j, k, l) := unlin_lin hj hk hl
  simp only [permSource, htuple]

/-- Every flat index of the permuted shape is that of a tuple in its range. -/
theorem exists_lin_permuted {m : Nat} (hm : m < S.card) : ∃ i j k l : Nat,
    (i < S.n1.toNat ∧ j < S.n2.toNat ∧ k < S.n0.toNat ∧ l < S.n3.toNat) ∧ m = lin S.permuted i j k l := by
  obtain ⟨⟨i, j, k, l⟩, h⟩ : ∃ p, unlin S.permuted m = p := ⟨_, rfl⟩
  exact ⟨i, j, k, l, unlin_inRange (S.card_permuted.symm ▸ hm) h, (lin_unlin h).symm⟩

theorem permSource_injOn {m m' : Nat} (hm : m < S.card) (hm' : m' < S.card) (h : permSource S m = permSource S m') :
    m = m' := by
  obtain ⟨i, j, k, l, ⟨hi, hj, hk, hl⟩, rfl⟩ := exists_lin_permuted hm
  obtain ⟨i', j', k', l', ⟨hi', hj', hk', hl'⟩, rfl⟩ := exists_lin_permuted hm'
  rw [permSource_lin hj hk hl, permSource_lin hj' hk' hl'] at h
  have htuple : (k, i, j, l) = (k', i', j', l') := by rw [← unlin_lin hi hj hl, h, unlin_lin hi' hj' hl']
  cases htuple
  rfl

/-- Flat index `lin S a b c d` of T0 goes to `lin S.permuted b c a d` of T1. -/
theorem permSource_surjOn {n : Nat} (hn : n < S.card) : ∃ m < S.card, permSource S m = n := by
  obtain ⟨⟨a, b, c, d⟩, h⟩ : ∃ p, unlin S n = p := ⟨_, rfl⟩
  obtain ⟨ha, hb, hc, hd⟩ := unlin_inRange hn h
  have hlt : lin S.permuted b c a d < S.permuted.card := lin_lt_card hb hc ha hd
  exact ⟨lin S.permuted b c a d, S.card_permuted ▸ hlt, (permSource_lin hc ha hd).trans (lin_unlin h)⟩

theorem map_permSource_range_perm (S : Shape) : ((List.range S.card).map (permSource S)).Perm (List.range S.card) := by
  have hnodup : ((List.range S.card).map (permSource S)).Nodup :=
    List.nodup_range.map_on fun m hm m' hm' => permSource_injOn (List.mem_range.mp hm) (List.mem_range.mp hm')
  refine (List.perm_ext_iff_of_nodup hnodup List.nodup_range).mpr fun n => ?_
  simp only [List.mem_map, List.mem_range]
  constructor
  · rintro ⟨m, hm, rfl⟩
    exact permSource_lt_card hm
  · exact permSource_surjOn

end Sys2Proof.Machine

open Sys2Proof Sys2Proof.Machine

/-- Settles O21: the flat form by `permSource_lin`; the bijection through the tuples of the two shapes. -/
theorem permutationOfFlatStorage : Obligations.PermutationOfFlatStorage := fun _ =>
  ⟨fun _ _ _ _ _ hj hk hl => permSource_lin hj hk hl, fun _ => permSource_lt_card,
    fun _ hm _ hm' => permSource_injOn hm hm', fun _ => permSource_surjOn⟩
end

section
/-! ### The tensor that PERMUTE makes (R160, R164) -/

namespace Sys2Proof.Machine

variable {s t : State}

theorem exec_permute_of_stale (hm : s.mode = .ready) (hv : s.t0.valid = false) :
    exec .permute s = .next (raise .staleOperand .permute s) := by
  rcases permuteStep_cases s with ⟨-, e⟩ | ⟨hv', -⟩ | ⟨hv', -⟩ | ⟨hv', -⟩
  · rw [exec_permute_of_ready hm, e, StepEnd.finish_raised]
  all_goals simp [hv] at hv'

theorem exec_permute_of_mismatch (hm : s.mode = .ready) (hv : s.t0.valid = true)
    (hcard : s.t0Shape.card ≠ s.t0.len.toNat) :
    exec .permute s = .next (raise .shapeMismatch .permute (releaseT0 (releaseT1 s))) := by
  rcases permuteStep_cases s with ⟨hv', -⟩ | ⟨-, -, e⟩ | ⟨-, hcard', -⟩ | ⟨-, hcard', -⟩
  · simp [hv] at hv'
  · rw [exec_permute_of_ready hm, e, StepEnd.finish_raised]
  all_goals exact absurd hcard' hcard

/-- Where the shape declares T0's elements, PERMUTE moves them to T1, each from its `permSource`, and releases T0 (R160). -/
theorem exec_permute_of_card (hm : s.mode = .ready) (hv : s.t0.valid = true)
    (hlen : s.t0.data.length = s.t0.len.toNat) (hcard : s.t0Shape.card = s.t0.len.toNat) :
    ∃ xs : List ComplexSample,
      exec .permute s = .next { releaseT0 s with t1 := .produced s.t0.len xs, t1Shape := s.t0Shape.permuted }
      ∧ xs.length = s.t0.len.toNat ∧ ∀ m < s.t0.len.toNat, xs[m]? = s.t0.get? (permSource s.t0Shape m) := by
  rcases permuteStep_cases s with ⟨hv', -⟩ | ⟨-, hcard', -⟩ | ⟨-, -, hnone, -⟩ | ⟨-, -, xs, hxs, e⟩
  · simp [hv] at hv'
  · exact absurd hcard hcard'
  · have hwf : s.t0.wf = true := Buffer.wf_iff.mpr (.inl ⟨hv, hlen⟩)
    exact absurd hnone (collect_get?_ne_none hwf hv fun _ hm => hcard ▸ permSource_lt_card (hcard.symm ▸ hm))
  · obtain ⟨hl, hget⟩ := collect_eq_some_iff.mp hxs
    exact ⟨xs, (exec_permute_of_ready hm).trans (congrArg StepEnd.finish e), hl,
      fun m hm => by rw [← hget m hm, Nat.zero_add]⟩

/-- A PERMUTE that ends in READY raised nothing: T0 was valid and its shape declared its length. -/
theorem card_of_exec_permute (hm : s.mode = .ready) (h : exec .permute s = .next t) (ht : t.mode = .ready) :
    s.t0.valid = true ∧ s.t0Shape.card = s.t0.len.toNat := by
  have no_raise {e : ErrorKind} {st : Stage} {u : State} (hu : exec .permute s = .next (raise e st u)) : False := by
    obtain rfl : raise e st u = t := Host.Outcome.next.inj (hu.symm.trans h)
    exact e.modeAfter_ne_ready ht
  rcases permuteStep_cases s with ⟨hv, -⟩ | ⟨hv, hcard, -⟩ | ⟨hv, hcard, -⟩ | ⟨hv, hcard, -⟩
  · exact (no_raise (exec_permute_of_stale hm hv)).elim
  · exact (no_raise (exec_permute_of_mismatch hm hv hcard)).elim
  all_goals exact ⟨hv, hcard⟩

/-- A list read through a reordering of the indices of another is a permutation of it. -/
theorem perm_of_getElem?_reorder {α : Type} {xs ys : List α} {g : Nat → Nat} (hlen : xs.length = ys.length)
    (hg : ((List.range ys.length).map g).Perm (List.range ys.length))
    (hget : ∀ m < ys.length, xs[m]? = ys[g m]?) : xs.Perm ys := by
  have asMap (zs : List α) : (List.range zs.length).map (zs[·]?) = zs.map some :=
    List.ext_getElem (by simp) fun m hm _ => by simp
  have hreorder : xs.map some = ((List.range ys.length).map g).map (ys[·]?) := by
    rw [← asMap xs, hlen, List.map_map]
    exact List.map_congr_left fun m hm => hget m (List.mem_range.mp hm)
  refine (List.map_perm_map_iff (Option.some_injective α)).mp ?_
  rw [hreorder, ← asMap ys]
  exact hg.map _

end Sys2Proof.Machine

open Sys2Proof Sys2Proof.Machine

/-- Settles O20: the two errors and the moved tensor, one lemma each; the element at an in-range tuple by the flat form of
the reordering, `permSource_lin`. -/
theorem permuteTransposesAndConsumes : Obligations.PermuteTransposesAndConsumes := by
  refine ⟨decode_encode .permute, fun s => ⟨fun hm => exec_of_not_ready hm (by decide), exec_permute_of_stale,
    fun hm hv hcard =>
      ⟨_, exec_permute_of_mismatch hm hv hcard, rfl, residentFrame_toNat (s := releaseT0 (releaseT1 s))⟩,
    fun hm hv hlen hcard => ?_⟩⟩
  obtain ⟨xs, hexec, -, hget⟩ := exec_permute_of_card hm hv hlen hcard
  refine ⟨_, hexec, rfl, rfl, rfl, fun i j k l hi hj hk hl => ?_, rfl⟩
  have hdst : lin s.t0Shape.permuted i j k l < s.t0.len.toNat :=
    hcard ▸ s.t0Shape.card_permuted ▸ lin_lt_card hi hj hk hl
  have hsrc : lin s.t0Shape k i j l < s.t0.len.toNat := hcard ▸ lin_lt_card hk hi hj hl
  obtain ⟨x, -, hx⟩ := Buffer.exists_get? (Buffer.wf_iff.mpr (.inl ⟨hv, hlen⟩)) hv hsrc
  refine ⟨x, ?_, hx⟩
  calc (Buffer.produced s.t0.len xs).get? (lin s.t0Shape.permuted i j k l)
      = xs[lin s.t0Shape.permuted i j k l]? := Buffer.get?_of_valid rfl hdst
    _ = s.t0.get? (permSource s.t0Shape (lin s.t0Shape.permuted i j k l)) := hget _ hdst
    _ = s.t0.get? (lin s.t0Shape k i j l) := by rw [permSource_lin hj hk hl]
    _ = some x := hx

/-- Settles O22: T1's list is T0's read through `permSource`, which reorders its indices. -/
theorem permuteKeepsTheMultiset : Obligations.PermuteKeepsTheMultiset := by
  intro s t hm hwf h ht
  obtain ⟨hv, hcard⟩ := card_of_exec_permute hm h ht
  have hlen := Buffer.length_data hwf hv
  obtain ⟨xs, hexec, hxs, hget⟩ := exec_permute_of_card hm hv hlen hcard
  obtain rfl := Host.Outcome.next.inj (hexec.symm.trans h)
  have hL : s.t0.data.length = s.t0Shape.card := hlen.trans hcard.symm
  have hmoved : ∀ m < s.t0.data.length, xs[m]? = s.t0.data[permSource s.t0Shape m]? := fun m hm => by
    rw [hget m (hlen ▸ hm), Buffer.get?_of_valid hv (hcard ▸ permSource_lt_card (hL ▸ hm))]
  have hperm : xs.Perm s.t0.data :=
    perm_of_getElem?_reorder (hxs.trans hlen.symm) (hL ▸ map_permSource_range_perm s.t0Shape) hmoved
  exact ⟨hperm, s.t0Shape.card_permuted.trans hcard, s.t0Shape.card_permuted, rfl, rfl⟩
end

section
/-! ### LOAD (R180): the frame that is read, and the three errors of the read -/

namespace Sys2Proof.Machine

/-- The RAW buffer of the frame at the head of the source (R67, R180 steps 5 and 6). -/
def State.nextFrame (s : State) : Buffer Sample := .produced s.cfgF (samplesOf (s.rem.take (2 * s.cfgF.toNat)))

/-- The state after a frame was read in full, with `p` and `f` the environment's record of the request (R180). -/
def State.frameRead (s : State) (p : List Bool) (f : Nat) : State :=
  { clearProbe (releaseAll s) with
    raw := s.nextFrame, frameIdx := s.frameIdx + 1, rem := s.rem.drop (2 * s.cfgF.toNat), srcPlan := p, free := f }

variable {s : State}

theorem State.done_eq_false (hlt : s.frameIdx.toNat < s.cfgTotal.toNat) : s.done = false :=
  decide_eq_false (Nat.not_le_of_lt hlt)

/-- A frame that can be delivered leaves no byte of its request missing. -/
theorem State.FrameDeliverable.le_length (h : s.FrameDeliverable) : 2 * s.cfgF.toNat ≤ s.rem.length := by
  obtain ⟨-, h0 | ⟨-, hl⟩⟩ := h
  · simp [h0]
  · exact hl

theorem nextFrame_length (h : s.FrameDeliverable) : s.nextFrame.data.length = s.cfgF.toNat :=
  samplesOf_length (List.length_take_of_le h.le_length)

/-- Sample `n` of the frame is made of bytes `2n` and `2n+1` of the source (R67). -/
theorem nextFrame_getD (h : s.FrameDeliverable) {n : Nat} (hn : n < s.cfgF.toNat) :
    s.nextFrame.data.getD n 0 = i16 (s.rem.getD (2 * n) 0) (s.rem.getD (2 * n + 1) 0) := by
  have hl := h.le_length
  have hpair : 2 * n + 1 < (s.rem.take (2 * s.cfgF.toNat)).length := by
    rw [List.length_take_of_le hl]
    omega
  have hsample := samplesOf_getElem? _ n hpair
  rw [List.getElem_take, List.getElem_take] at hsample
  rw [List.getD_eq_getElem _ 0 (by omega : 2 * n < s.rem.length),
    List.getD_eq_getElem _ 0 (by omega : 2 * n + 1 < s.rem.length)]
  exact (congrArg (·.getD 0) hsample :)

/-- A request changes the environment's record of its answers alone. -/
theorem State.afterRequest_env (s : State) : ∃ p f, s.afterRequest = { s with srcPlan := p, free := f } := by
  unfold State.afterRequest
  split <;> exact ⟨_, _, rfl⟩

/-- A request for no byte, and one that a readable source can serve, deliver the bytes at the source's head (R71). -/
theorem srcRead_delivers {n : Nat} (h : n = 0 ∨ (s.sourceReadable = true ∧ n ≤ s.rem.length)) :
    ∃ p f, srcRead n s = (.bytes (s.rem.take n), { s with rem := s.rem.drop n, srcPlan := p, free := f }) := by
  rcases Nat.eq_zero_or_pos n with rfl | hn
  · exact ⟨s.srcPlan, s.free, rfl⟩
  · obtain ⟨hr, hl⟩ := h.resolve_left hn.ne'
    obtain ⟨p, f, henv⟩ := s.afterRequest_env
    exact ⟨p, f, by rw [srcRead_of_le hn hr hl, henv]⟩

theorem exec_load_of_lt (hm : s.mode = .ready) (hlt : s.frameIdx.toNat < s.cfgTotal.toNat) :
    exec .load s = (frameReadStep s).finish :=
  exec_load_of_ready hm (State.done_eq_false hlt)

theorem exec_load_of_capacity (hm : s.mode = .ready) (hlt : s.frameIdx.toNat < s.cfgTotal.toNat)
    (hcap : s.rawCap < s.cfgF.toNat) :
    exec .load s = .next (raise .allocationFailure .load (clearProbe (releaseAll s))) := by
  simp [exec_load_of_lt hm hlt, frameReadStep, hcap]

theorem exec_load_of_unreadable (hm : s.mode = .ready) (hlt : s.frameIdx.toNat < s.cfgTotal.toNat)
    (hcap : s.cfgF.toNat ≤ s.rawCap) (hpos : 0 < s.cfgF.toNat) (hr : s.sourceReadable = false) : ∃ p f,
    exec .load s
      = .next (raise .sourceUnavailable .load { clearProbe (releaseAll s) with srcPlan := p, free := f }) := by
  have hread := srcRead_of_unreadable (n := 2 * s.cfgF.toNat) (s := clearProbe (releaseAll s)) (by omega) hr
  obtain ⟨p, f, henv⟩ := (clearProbe (releaseAll s)).afterRequest_env
  exact ⟨p, f, by simp [exec_load_of_lt hm hlt, frameReadStep, Nat.not_lt_of_le hcap, hread, henv]⟩

theorem exec_load_of_short (hm : s.mode = .ready) (hlt : s.frameIdx.toNat < s.cfgTotal.toNat)
    (hcap : s.cfgF.toNat ≤ s.rawCap) (hr : s.sourceReadable = true) (hl : s.rem.length < 2 * s.cfgF.toNat) : ∃ p f,
    exec .load s
      = .next (raise .shortRead .load { clearProbe (releaseAll s) with rem := [], srcPlan := p, free := f }) := by
  have hread := srcRead_of_short (s := clearProbe (releaseAll s)) (Nat.zero_lt_of_lt hl) hr hl
  obtain ⟨p, f, henv⟩ := (clearProbe (releaseAll s)).afterRequest_env
  exact ⟨p, f, by simp [exec_load_of_lt hm hlt, frameReadStep, Nat.not_lt_of_le hcap, hread, henv]⟩

theorem exec_load_of_deliverable (hm : s.mode = .ready) (hlt : s.frameIdx.toNat < s.cfgTotal.toNat)
    (h : s.FrameDeliverable) : ∃ p f, exec .load s = .next (s.frameRead p f) := by
  obtain ⟨hcap, hsrc⟩ := h
  obtain ⟨p, f, hread⟩ := srcRead_delivers (n := 2 * s.cfgF.toNat) (s := clearProbe (releaseAll s))
    (hsrc.imp_left fun h0 => by rw [h0])
  refine ⟨p, f, ?_⟩
  simp [exec_load_of_lt hm hlt, frameReadStep, Nat.not_lt_of_le hcap, hread, State.frameRead, State.nextFrame]

end Sys2Proof.Machine

open Sys2Proof Sys2Proof.Machine

/-- Settles O13: the three errors of the read and the frame read in full, one lemma each. -/
theorem loadReadsOneFrame : Obligations.LoadReadsOneFrame := by
  refine ⟨decode_encode .load, fun s => ⟨fun hm => exec_of_not_ready hm (by decide),
    fun _ hd => exec_of_done (decide_eq_true hd) (.inl rfl), exec_load_of_capacity,
    fun hm hlt hcap hpos hr => ?_, fun hm hlt hcap hr hl => ?_, fun hm hlt hcap hsrc => ?_⟩⟩
  · obtain ⟨p, f, h⟩ := exec_load_of_unreadable hm hlt hcap hpos hr
    exact ⟨_, h, rfl⟩
  · obtain ⟨p, f, h⟩ := exec_load_of_short hm hlt hcap hr hl
    exact ⟨_, h, rfl⟩
  · have hdel : s.FrameDeliverable := ⟨hcap, hsrc⟩
    obtain ⟨p, f, h⟩ := exec_load_of_deliverable hm hlt hdel
    refine ⟨_, h, rfl, rfl, fun n hn => ?_, frameIdx_succ_toNat (State.done_eq_false hlt), rfl⟩
    exact (Buffer.get?_eq_getD (b := s.nextFrame) rfl (nextFrame_length hdel) hn 0).trans
      (congrArg some (nextFrame_getD hdel hn))
end

section
/-! ### FRAME is LOAD, DEINT, RESHAPE and PERMUTE until one of them raises (R181, R182) -/

namespace Sys2Proof.Machine

/-- A command that ends in READY raised nothing. -/
theorem StepEnd.done_of_finish {r : StepEnd} {t : State} (h : r.finish = .next t) (ht : t.mode = .ready) :
    r = .done t := by
  rcases StepEnd.finish_cases h with e | ⟨e, st, u, -, rfl⟩
  · exact e
  · exact absurd ht e.modeAfter_ne_ready

/-- A command that leaves READY has raised: FRAME runs no step after it, and ends in the state it leaves, all four
buffers released. -/
theorem StepEnd.raised_of_finish {r : StepEnd} {s t : State} (h : r.finish = .next t) (ht : t.mode ≠ .ready)
    (hm : s.mode = .ready) (hr : r.EndsIn fun u => u.unwritten = s.unwritten) :
    (∀ f, r.andThen f = r) ∧ r.finishFrame = .next (releaseAll t) := by
  rcases StepEnd.finish_cases h with rfl | ⟨e, st, u, rfl, rfl⟩
  · have hmode : t.mode = s.mode := congrArg (·.mode) hr
    exact absurd (hmode.trans hm) ht
  · exact ⟨fun _ => rfl, congrArg Host.Outcome.next (releaseAll_raise e st u).symm⟩

theorem exec_frame_of_lt {s : State} (hm : s.mode = .ready) (hlt : s.frameIdx.toNat < s.cfgTotal.toNat) :
    exec .frame s = (frameSteps s).finishFrame :=
  exec_frame_of_ready hm (State.done_eq_false hlt)

end Sys2Proof.Machine

open Sys2Proof Sys2Proof.Machine

/-- Settles O27: each command that ends in READY is its step, done (`StepEnd.done_of_finish`). -/
theorem frameEqualsTheFourCommands : Obligations.FrameEqualsTheFourCommands := by
  intro s s1 s2 s3 s4 hm hlt h1 hm1 h2 hm2 h3 hm3 h4 hm4
  have e1 := StepEnd.done_of_finish (exec_load_of_lt hm hlt ▸ h1) hm1
  have e2 := StepEnd.done_of_finish (exec_deint_of_ready hm1 ▸ h2) hm2
  have e3 := StepEnd.done_of_finish (exec_reshape_of_ready hm2 ▸ h3) hm3
  have e4 := StepEnd.done_of_finish (exec_permute_of_ready hm3 ▸ h4) hm4
  simp only [exec_frame_of_lt hm hlt, frameSteps, e1, StepEnd.andThen_done, e2, e3, e4]
  rfl

/-- Settles O28: the commands before the failing one are their steps, done; the failing one's step ends FRAME
(`StepEnd.raised_of_finish`). -/
theorem frameReportsTheFirstFailingStep : Obligations.FrameReportsTheFirstFailingStep := by
  intro s s1 s2 s3 hm hlt h1
  rw [exec_load_of_lt hm hlt] at h1
  rw [exec_frame_of_lt hm hlt, frameSteps]
  refine ⟨fun hn1 => ?_, fun hm1 h2 => ?_⟩
  · obtain ⟨hstop, hend⟩ := StepEnd.raised_of_finish h1 hn1 hm (frameReadStep_unwritten s)
    rw [hstop, hstop, hstop, hend]
  · rw [exec_deint_of_ready hm1] at h2
    rw [StepEnd.done_of_finish h1 hm1, StepEnd.andThen_done]
    refine ⟨fun hn2 => ?_, fun hm2 h3 hn3 => ?_⟩
    · obtain ⟨hstop, hend⟩ := StepEnd.raised_of_finish h2 hn2 hm1 (deintStep_unwritten s1)
      rw [hstop, hstop, hend]
    · rw [exec_reshape_of_ready hm2] at h3
      rw [StepEnd.done_of_finish h2 hm2, StepEnd.andThen_done]
      obtain ⟨hstop, hend⟩ := StepEnd.raised_of_finish h3 hn3 hm2 (reshapeStep_unwritten s2)
      rw [hstop, hend]
end

section
/-! ### The frames that FRAME cannot process (R181 steps 2 to 4, R237) -/

namespace Sys2Proof.Machine

variable {s : State} {st : Stage}

theorem raise_mode_ne_ready {e : ErrorKind} : (raise e st s).mode ≠ .ready := e.modeAfter_ne_ready

/-- Error entry with the frame index it records spelled out (R236, R237). -/
theorem raise_eq_of_errorFrame (e : ErrorKind) {i : Word} (h : errorFrame e s = i) :
    raise e st s = { s with errCode := e.code, errStage := st.code, errFrame := i, mode := e.modeAfter } := by
  subst h
  rfl

theorem exec_frame_of_load_raised {e : ErrorKind} {u : State} (hm : s.mode = .ready)
    (hlt : s.frameIdx.toNat < s.cfgTotal.toNat) (h : exec .load s = .next (raise e st u)) :
    exec .frame s = .next (releaseAll (raise e st u)) :=
  (frameReportsTheFirstFailingStep s _ s s hm hlt h).1 raise_mode_ne_ready

/-- Where the counter has just gone up, the resident frame is the one it counted before (R237). -/
theorem residentFrame_of_counted {i : Word} (hs : s.frameIdx = i + 1) (hi : (i + 1).toNat = i.toNat + 1) :
    residentFrame s = i := by
  have hn : s.frameIdx.toNat = i.toNat + 1 := hs ▸ hi
  have hres := residentFrame_toNat (s := s) (by omega)
  exact BitVec.eq_of_toNat_eq (by omega)

/-- The CF that the deinterleave step writes is in canonical form (R37, R121 steps 5 and 6). -/
theorem deintStep_done_wf {u : State} (h : deintStep s = .done u) : u.cf.wf = true := by
  rcases deintStep_cases s with ⟨-, e⟩ | ⟨-, -, e⟩ | ⟨-, -, -, e⟩ | ⟨-, -, xs, hxs, e⟩ <;> rw [e] at h <;> cases h
  obtain ⟨hlen, -⟩ := collect_eq_some_iff.mp hxs
  refine Buffer.produced_wf (hlen.trans ?_)
  rw [BitVec.toNat_ofNat, Nat.mod_eq_of_lt]
  omega

/-- A frame of quartets just read is deinterleaved in full (R121). -/
theorem exec_deint_frameRead {p : List Bool} {f : Nat} (hm : s.mode = .ready) (hdel : s.FrameDeliverable)
    (h4 : s.cfgF.toNat % 4 = 0) : ∃ c : Buffer ComplexSample,
      exec .deint (s.frameRead p f) = .next { s.frameRead p f with cf := c }
      ∧ c.valid = true ∧ c.wf = true ∧ c.len.toNat = s.cfgF.toNat / 2
      ∧ ∀ n < s.cfgF.toNat / 2, c.get? n = deintElement s.nextFrame n := by
  have hm1 : (s.frameRead p f).mode = .ready := hm
  obtain ⟨t, h, hv, hlen, hget, hframe⟩ := exec_deint_of_quartets hm1 rfl h4 (nextFrame_length hdel)
  have hmt : t.mode = .ready := (congrArg (·.mode) hframe).trans hm1
  have hwf := deintStep_done_wf (StepEnd.done_of_finish (exec_deint_of_ready hm1 ▸ h) hmt)
  have hhalf : 2 * ((s.frameRead p f).raw.len.toNat / 4) = s.cfgF.toNat / 2 := by
    change 2 * (s.cfgF.toNat / 4) = _
    omega
  rw [hhalf] at hlen hget
  exact ⟨t.cf, hframe ▸ h, hv, hwf, hlen, hget⟩

end Sys2Proof.Machine

open Sys2Proof Sys2Proof.Machine

/-- Settles O24: LOAD raises the three errors of the read, and FRAME reports what LOAD does. -/
theorem frameReadErrorsOfFrame : Obligations.FrameReadErrorsOfFrame := by
  refine ⟨decode_encode .frame, fun s => ⟨fun hm => exec_of_not_ready hm (by decide),
    fun _ hd => exec_of_done (decide_eq_true hd) (.inr rfl),
    fun hm hlt hcap => exec_frame_of_load_raised hm hlt (exec_load_of_capacity hm hlt hcap),
    fun hm hlt hcap hpos hr => ?_, fun hm hlt hcap hr hl => ?_⟩⟩
  · obtain ⟨p, f, h⟩ := exec_load_of_unreadable hm hlt hcap hpos hr
    exact ⟨_, exec_frame_of_load_raised hm hlt h, rfl⟩
  · obtain ⟨p, f, h⟩ := exec_load_of_short hm hlt hcap hr hl
    exact ⟨_, exec_frame_of_load_raised hm hlt h, rfl⟩

/-- Settles O25: LOAD reads the frame; then DEINT raises at its length, or, the length being right, RESHAPE raises at
the geometry; and FRAME reports what they do. -/
theorem malformedFramesAreReportedAndReleased : Obligations.MalformedFramesAreReportedAndReleased := by
  rintro s P rfl hm hlt hcap hsrc
  have hdel : s.FrameDeliverable := ⟨hcap, hsrc⟩
  have hidx := frameIdx_succ_toNat (State.done_eq_false hlt)
  obtain ⟨p, f, h1⟩ := exec_load_of_deliverable hm hlt hdel
  have hm1 : (s.frameRead p f).mode = .ready := hm
  refine ⟨fun h4 => ?_, fun h4 hP => ?_⟩
  · have h2 := exec_deint_of_size hm1 rfl h4
    have hend := ((frameReportsTheFirstFailingStep s _ _ s hm hlt h1).2 hm1 h2).1 raise_mode_ne_ready
    rw [raise_eq_of_errorFrame .invalidFrameSize
      (residentFrame_of_counted (s := releaseCf (s.frameRead p f)) rfl hidx)] at hend
    exact ⟨_, hend, hidx, rfl⟩
  · obtain ⟨c, h2, hv, -, hlen, -⟩ := exec_deint_frameRead (p := p) (f := f) hm hdel h4
    have h3 := exec_reshape_of_mismatch (s := { s.frameRead p f with cf := c }) hm hv (hlen.symm ▸ hP)
    have hend := ((frameReportsTheFirstFailingStep s _ _ _ hm hlt h1).2 hm1 h2).2 hm h3 raise_mode_ne_ready
    rw [raise_eq_of_errorFrame .shapeMismatch
      (residentFrame_of_counted (s := releaseT0 { s.frameRead p f with cf := c }) rfl hidx)] at hend
    exact ⟨_, hend, hidx, rfl⟩
end

section
/-! ### The frame that FRAME delivers (R164 item 5, R181) -/

namespace Sys2Proof.Machine

variable {s : State}

/-- The pair of converted samples that the source's bytes give for flat index `n` of the pre-transpose tensor: with
`q = n / 2` and `r = n mod 2`, samples `4q + r` and `4q + 2 + r` (R67, R120, R122). -/
def State.sourceElement (s : State) (n : Nat) : ComplexSample :=
  { re := f32OfI16 (i16 (s.rem.getD (2 * (4 * (n / 2) + n % 2)) 0) (s.rem.getD (2 * (4 * (n / 2) + n % 2) + 1) 0))
    im := f32OfI16 (i16 (s.rem.getD (2 * (4 * (n / 2) + 2 + n % 2)) 0)
      (s.rem.getD (2 * (4 * (n / 2) + 2 + n % 2) + 1) 0)) }

theorem deintElement_nextFrame (hdel : s.FrameDeliverable) (h4 : s.cfgF.toNat % 4 = 0) {n : Nat}
    (hn : n < s.cfgF.toNat / 2) : deintElement s.nextFrame n = some (s.sourceElement n) := by
  have hq : n / 2 < s.nextFrame.len.toNat / 4 := by
    change n / 2 < s.cfgF.toNat / 4
    omega
  have hel := deintElement_eq rfl (nextFrame_length hdel) hq (Nat.mod_lt n (by decide : 0 < 2))
  rw [Nat.div_add_mod, ← Nat.add_assoc, Nat.add_right_comm] at hel
  rw [hel, nextFrame_getD hdel (by omega), nextFrame_getD hdel (by omega), State.sourceElement]

/-- The T0 that the reshape step writes is in canonical form (R37, R140 steps 5 and 6). -/
theorem reshapeStep_done_wf {u : State} (h : reshapeStep s = .done u) : u.t0.wf = true := by
  rcases reshapeStep_cases s with ⟨-, e⟩ | ⟨-, -, e⟩ | ⟨-, -, -, -, e⟩ | ⟨-, -, -, xs, hxs, e⟩ <;> rw [e] at h <;>
    cases h
  exact Buffer.produced_wf (collect_eq_some_iff.mp hxs).1

/-- Where the geometry divides CF, RESHAPE gives it a shape `S`, and PERMUTE moves its elements to T1, each from its
`permSource`; T0 is released again (R140, R160). -/
theorem exec_reshape_permute {S : Shape} (hm : s.mode = .ready) (hv : s.cf.valid = true) (hwf : s.cf.wf = true)
    (h0 : geometryProduct s ≠ 0) (hdiv : s.cf.len.toNat % geometryProduct s = 0)
    (hS : S = { n0 := s.cfgN0, n1 := s.cfgN1, n2 := s.cfgN2,
                n3 := BitVec.ofNat 32 (s.cf.len.toNat / geometryProduct s) }) :
    ∃ (s3 : State) (b : Buffer ComplexSample),
      exec .reshape s = .next s3 ∧ s3.mode = .ready
      ∧ exec .permute s3 = .next { releaseT0 s with t1 := b, t1Shape := S.permuted }
      ∧ b.valid = true ∧ b.len = s.cf.len ∧ ∀ m < S.card, b.get? m = s.cf.get? (permSource S m) := by
  obtain ⟨s3, h3, hv3, hl3, hS3, hget3, hframe3⟩ := exec_reshape_of_divides hm hv (Buffer.length_data hwf hv) h0 hdiv
  have hm3 : s3.mode = .ready := (congrArg (·.mode) hframe3).trans hm
  have hwf3 := reshapeStep_done_wf (StepEnd.done_of_finish (exec_reshape_of_ready hm ▸ h3) hm3)
  have hcard : S.card = s.cf.len.toNat := hS ▸ card_of_geometry hdiv
  rw [← hS] at hS3
  obtain ⟨xs, h4, -, hget4⟩ := exec_permute_of_card hm3 hv3 (Buffer.length_data hwf3 hv3) (by rw [hS3, hl3, hcard])
  have hkept : releaseT0 s3 = releaseT0 s := by rw [hframe3]; rfl
  rw [hS3, hl3] at hget4
  rw [hS3, hl3, hkept] at h4
  refine ⟨s3, _, h3, hm3, h4, rfl, rfl, fun m hmS => ?_⟩
  calc (Buffer.produced s.cf.len xs).get? m
      = xs[m]? := Buffer.get?_of_valid rfl (hcard ▸ hmS)
    _ = s3.t0.get? (permSource S m) := hget4 m (hcard ▸ hmS)
    _ = s.cf.get? (permSource S m) := hget3 _ (hcard ▸ permSource_lt_card hmS)

/-- A well-sized frame that the source can deliver is processed to the end: T1 holds the source's elements under the
permuted shape, each at the place the reordering gives it, and nothing else of the frame is left (R164 item 5, R181). -/
theorem exec_frame_of_wellSized {S : Shape} (hm : s.mode = .ready) (hlt : s.frameIdx.toNat < s.cfgTotal.toNat)
    (hdel : s.FrameDeliverable) (h4 : s.cfgF.toNat % 4 = 0) (h0 : geometryProduct s ≠ 0)
    (hdiv : s.cfgF.toNat / 2 % geometryProduct s = 0)
    (hS : S = { n0 := s.cfgN0, n1 := s.cfgN1, n2 := s.cfgN2,
                n3 := BitVec.ofNat 32 (s.cfgF.toNat / 2 / geometryProduct s) }) :
    ∃ (p : List Bool) (f : Nat) (b : Buffer ComplexSample),
      exec .frame s = .next { s.frameRead p f with raw := .released, t1 := b, t1Shape := S.permuted }
      ∧ b.valid = true ∧ b.len.toNat = s.cfgF.toNat / 2 ∧ S.card = s.cfgF.toNat / 2
      ∧ ∀ m < S.card, b.get? m = some (s.sourceElement (permSource S m)) := by
  obtain ⟨p, f, h1⟩ := exec_load_of_deliverable hm hlt hdel
  obtain ⟨c, h2, hvc, hwfc, hlc, hgetc⟩ := exec_deint_frameRead (p := p) (f := f) hm hdel h4
  rw [← hlc] at hdiv hS
  obtain ⟨s3, b, h3, hm3, h4', hvb, hlb, hgetb⟩ :=
    exec_reshape_permute (s := { s.frameRead p f with cf := c }) hm hvc hwfc h0 hdiv hS
  have hcard : S.card = s.cfgF.toNat / 2 := hlc ▸ hS ▸ card_of_geometry hdiv
  refine ⟨p, f, b, frameEqualsTheFourCommands s _ _ _ _ hm hlt h1 hm h2 hm h3 hm3 h4' hm, hvb, hlb ▸ hlc, hcard,
    fun m hmS => ?_⟩
  have hsrc : permSource S m < s.cfgF.toNat / 2 := hcard ▸ permSource_lt_card hmS
  calc b.get? m
      = c.get? (permSource S m) := hgetb m hmS
    _ = deintElement s.nextFrame (permSource S m) := hgetc _ hsrc
    _ = some (s.sourceElement (permSource S m)) := deintElement_nextFrame hdel h4 hsrc

end Sys2Proof.Machine

open Sys2Proof Sys2Proof.Machine

/-- Settles O26: `exec_frame_of_wellSized`, read at the flat index of an in-range tuple by `permSource_lin`. -/
theorem frameDeliversTheTransposedFrame : Obligations.FrameDeliversTheTransposedFrame := by
  rintro s P d0 rfl hd hm hlt hcap hsrc h4 h0 hdiv
  obtain ⟨p, f, b, h, hv, hlen, hcard, hget⟩ := exec_frame_of_wellSized hm hlt ⟨hcap, hsrc⟩ h4 h0 hdiv rfl
  obtain rfl : (BitVec.ofNat 32 (s.cfgF.toNat / 2 / geometryProduct s)).toNat = d0 := by
    rw [hd, ← hlen]
    exact toNat_ofNat_div b.len _
  refine ⟨_, h, frameIdx_succ_toNat (State.done_eq_false hlt), hv, hlen, rfl, rfl, rfl, rfl, ?_, rfl⟩
  rintro i j k l n hi hj hk hl rfl
  have hplace := hget (lin (Shape.permuted _) i j k l) (Shape.card_permuted _ ▸ lin_lt_card hi hj hk hl)
  rw [permSource_lin hj hk hl] at hplace
  exact hplace
end

section
/-! ### The registers at the port (R36, R45, R213) -/

namespace Sys2Proof.Machine

/-- The byte address of R45 over four is the word the port carries (R61). -/
theorem ofNat_addr_div (r : Reg) : BitVec.ofNat 30 (r.addr.toNat / 4) = r.word := by
  cases r <;> rfl

/-- No register's value depends on the queue or the reply. -/
@[simp] theorem readReg_takeInput (rest : List Input) (s : State) (r : Reg) :
    (takeInput rest s).readReg r = s.readReg r := by
  cases r <;> rfl

/-- The registers R45 marks RW. -/
def Reg.readWrite : List Reg :=
  [.cfgF, .cfgN0, .cfgN1, .cfgN2, .cfgTotal, .probeSel, .pidx0, .pidx1, .pidx2, .pidx3]

/-- The registers R45 marks RO. -/
def Reg.readOnly : List Reg :=
  [.status, .errCode, .errStage, .errFrame, .frameIdx, .rawLen, .cfLen, .t0Len, .t1Len,
   .t0Shape0, .t0Shape1, .t0Shape2, .t0Shape3, .t1Shape0, .t1Shape1, .t1Shape2, .t1Shape3, .probeRe, .probeIm]

/-- A write to a read-only register is ignored (R36). -/
theorem writeReg_of_readOnly {r : Reg} (h : r ∈ Reg.readOnly) (s : State) (v : Word) : s.writeReg r v = s := by
  unfold Reg.readOnly at h
  fin_cases h <;> rfl

end Sys2Proof.Machine

open Sys2Proof Sys2Proof.Machine

/-- Settles O31: the list is the register map `Reg.all`, each address with the value of its register. -/
theorem registerReadsReturnTheRegister : Obligations.RegisterReadsReturnTheRegister := by
  intro s rest addr v hmem hx
  obtain ⟨r, -, hr⟩ : ∃ r ∈ Reg.all, (r.addr.toNat, s.readReg r) = (addr, v) := List.mem_map.mp hmem
  cases hr
  rw [step_readReg r (ofNat_addr_div r) hx, readReg_takeInput]

/-- Settles O32: the two lists are `Reg.readWrite`, with the state after each write, and `Reg.readOnly`. -/
theorem registerWritesStoreOrAreIgnored : Obligations.RegisterWritesStoreOrAreIgnored := by
  rintro s u rest addr v rfl hx
  refine ⟨fun t hmem => ?_, fun hmem => ?_⟩
  · obtain ⟨r, hrw, hr⟩ : ∃ r ∈ Reg.readWrite, (r.addr.toNat, (takeInput rest s).writeReg r v) = (addr, t) :=
      List.mem_map.mp hmem
    cases hr
    exact step_writeReg r (ofNat_addr_div r) (ne_of_mem_of_not_mem hrw (by decide)) hx
  · obtain ⟨r, hro, rfl⟩ : ∃ r ∈ Reg.readOnly, r.addr.toNat = addr := List.mem_map.mp hmem
    rw [step_writeReg r (ofNat_addr_div r) (ne_of_mem_of_not_mem hro (by decide)) hx, writeReg_of_readOnly hro]
    rfl
end

section
/-! ### The control commands NOP, ERRCLR and PROBE (R210 to R212) -/

namespace Sys2Proof.Machine

variable {s : State}

/-- In READY NOP does nothing; elsewhere its discard is the same (R210). -/
theorem exec_nop (s : State) : exec .nop s = .next s := by
  by_cases hm : s.mode = .ready
  · exact whenReady_of_ready hm
  · exact exec_of_not_ready hm (by decide)

theorem exec_errclr_of_error (hm : s.mode = .error) : exec .errclr s = .next (returnFromError s) := by
  simp only [exec, execErrclr, hm]

theorem exec_errclr_of_ready (hm : s.mode = .ready) : exec .errclr s = .next s := by
  simp only [exec, execErrclr, hm]

/-- The tensor PROBE_SEL[0] selects, buffer and shape together (R211 step 1). -/
theorem probeTensor_eq (s : State) :
    (probeBuffer s, probeShape s) = if s.probeSel.getLsbD 0 then (s.t0, s.t0Shape) else (s.t1, s.t1Shape) := by
  unfold probeBuffer probeShape probeSelectsT0
  split <;> rfl

/-- With the tensor invalid or an index out of range PROBE clears the capture (R211 step 2). -/
theorem exec_probe_of_no_element (hm : s.mode = .ready)
    (h : (probeBuffer s).valid = true →
      (probeShape s).inRange s.pidx0.toNat s.pidx1.toNat s.pidx2.toNat s.pidx3.toNat = false) :
    exec .probe s = .next (clearProbe s) := by
  rcases execProbe_cases s hm with ⟨-, e⟩ | ⟨hv, hin, -⟩
  · exact e
  · exact absurd hin (by simp [h hv])

/-- Otherwise it captures the element at the flat index, where that holds a value (R211 step 3). -/
theorem exec_probe_of_element {x : ComplexSample} (hm : s.mode = .ready)
    (hin : (probeShape s).inRange s.pidx0.toNat s.pidx1.toNat s.pidx2.toNat s.pidx3.toNat = true)
    (hx : (probeBuffer s).get? (probeIndex s) = some x) :
    exec .probe s = .next { s with probeRe := x.re, probeIm := x.im, probeV := true } := by
  rcases execProbe_cases s hm with ⟨hv | hout, -⟩ | ⟨-, -, ⟨hnone, -⟩ | ⟨y, hy, e⟩⟩
  · exact absurd (Buffer.get?_eq_some hx).1 (by simp [hv])
  · exact absurd hin (by simp [hout])
  · exact absurd hx (by simp [hnone])
  · obtain rfl : y = x := Option.some.inj (hy.symm.trans hx)
    exact e

end Sys2Proof.Machine

open Sys2Proof Sys2Proof.Machine

/-- Settles O8: NOP's effect in READY is its discard. -/
theorem nopChangesNothing : Obligations.NopChangesNothing :=
  ⟨decode_encode .nop, exec_nop⟩

/-- Settles O9: one equation per MODE. -/
theorem errclrReturnsFromError : Obligations.ErrclrReturnsFromError :=
  ⟨decode_encode .errclr, fun _ => ⟨exec_errclr_of_error, exec_errclr_of_ready, exec_of_halted⟩⟩

/-- Settles O11: an in-range tuple lies below the product of the shape, which is the length of the tensor, so the element is
there. -/
theorem probeCapturesTheAddressedElement : Obligations.ProbeCapturesTheAddressedElement := by
  refine ⟨decode_encode .probe, fun s B S hsel => ?_⟩
  obtain ⟨rfl, rfl⟩ : B = probeBuffer s ∧ S = probeShape s := Prod.mk.inj (hsel.trans (probeTensor_eq s).symm)
  refine ⟨fun hm => exec_of_not_ready hm (by decide), fun hm hout => exec_probe_of_no_element hm fun hv => ?_,
    fun hm hv hlen hcard h0 h1 h2 h3 => ?_⟩
  · rw [Bool.eq_false_iff, ne_eq, Shape.inRange_iff]
    rintro ⟨h0, h1, h2, h3⟩
    rcases hout with hv' | hge | hge | hge | hge
    · exact absurd hv (by simp [hv'])
    all_goals omega
  · have hidx : probeIndex s < (probeBuffer s).len.toNat := hcard ▸ lin_lt_card h0 h1 h2 h3
    obtain ⟨x, hdata, hget⟩ := Buffer.exists_get? (Buffer.wf_iff.mpr (.inl ⟨hv, hlen⟩)) hv hidx
    exact ⟨x, hdata, exec_probe_of_element hm (Shape.inRange_iff.mpr ⟨h0, h1, h2, h3⟩) hget⟩
end

section
/-! ### Outside READY an event changes only what the host writes (R231, R232, R244) -/

namespace Sys2Proof.Machine

/-- The state with every field blanked that the port's transactions can write without executing a command: the host's
registers, the queue, the reply and the count of free values. -/
def State.internal (s : State) : State :=
  { s with
    cfgF := 0, cfgN0 := 0, cfgN1 := 0, cfgN2 := 0, cfgTotal := 0
    probeSel := 0, pidx0 := 0, pidx1 := 0, pidx2 := 0, pidx3 := 0, inputs := [], reply := none, free := 0 }

@[simp] theorem takeInput_internal (rest : List Input) (s : State) : (takeInput rest s).internal = s.internal := rfl

@[simp] theorem writeReg_internal (s : State) (r : Reg) (v : Word) : (s.writeReg r v).internal = s.internal := by
  cases r <;> rfl

/-- Only ERRCLR in ERROR executes outside READY (R232). -/
theorem exec_discarded {s : State} {i : Instr} (hm : s.mode ≠ .ready) (he : s.mode = .error → i ≠ .errclr) :
    exec i s = .next s := by
  cases hmode : s.mode with
  | ready => exact absurd hmode hm
  | error => exact exec_of_not_ready hm (he hmode)
  | halted => exact exec_of_halted hmode

/-- Outside READY every event but reset, and ERRCLR in ERROR, leaves what the host cannot write (R231). -/
theorem step_internal {s t : State} {x : Input} {rest : List Input} (hx : s.inputs = x :: rest) (h : step s = .next t)
    (hr : x ≠ .reset) (hm : s.mode ≠ .ready) (he : s.mode = .error → x ≠ .memWrite 0 (encode .errclr)) :
    t.internal = s.internal ∧ t.inputs = rest := by
  rcases step_cases hx h with ⟨rfl, -⟩ | ⟨_, _, _, -, rfl⟩ | ⟨_, v, r, -, -, rfl⟩ | ⟨_, _, -, rfl⟩
    | ⟨c, i, rfl, hc, hi⟩ | ⟨_, _, -, -, rfl⟩
  · exact absurd rfl hr
  · exact ⟨rfl, rfl⟩
  · exact ⟨writeReg_internal _ r v, State.writeReg_inputs _ r v⟩
  · exact ⟨rfl, rfl⟩
  · have hne : s.mode = .error → i ≠ .errclr := fun hmode hcmd =>
      he hmode (by rw [decode_eq_ok_iff.mp hc, hcmd])
    rw [exec_discarded (s := takeInput rest s) hm hne] at hi
    cases hi
    exact ⟨rfl, rfl⟩
  · rw [if_neg hm]
    exact ⟨rfl, rfl⟩

/-- A run of `k + 1` steps is a step and a run of `k` from the state it gives. -/
theorem run_succ_eq_next {k : Nat} {s t : State} (h : core.run (k + 1) s = .next t) :
    ∃ u : State, step s = .next u ∧ core.run k u = .next t := by
  simp only [Host.Core.run] at h
  split at h
  · exact ⟨_, ‹_›, h⟩
  · cases h
  · cases h

/-- In HALTED a run without reset leaves what the host cannot write (R244). -/
theorem run_internal_of_halted {k : Nat} {t : State} : ∀ {s : State}, s.mode = .halted →
    (∀ x ∈ s.inputs, x ≠ Input.reset) → core.run k s = .next t → t.internal = s.internal := by
  induction k with
  | zero =>
    intro s _ _ h
    cases h
    rfl
  | succ k ih =>
    intro s hm hn h
    obtain ⟨u, hu, hrun⟩ := run_succ_eq_next h
    cases hx : s.inputs with
    | nil =>
      rw [step_nil hx] at hu
      cases hu
      exact ih hm hn hrun
    | cons x rest =>
      rw [hx] at hn
      obtain ⟨hint, hrest⟩ := step_internal hx hu (hn x List.mem_cons_self) (by simp [hm]) (by simp [hm])
      have hmu : u.mode = s.mode := congrArg (·.mode) hint
      exact (ih (hmu.trans hm) (hrest ▸ fun y hy => hn y (List.mem_cons_of_mem x hy)) hrun).trans hint

end Sys2Proof.Machine

open Sys2Proof Sys2Proof.Machine

/-- Settles O45: by induction on the run every field the host cannot write stays (`run_internal_of_halted`). -/
theorem haltedIsLeftOnlyByReset : Obligations.HaltedIsLeftOnlyByReset := by
  intro k s t hm hn h
  have kept {α : Type} (f : State → α) : f t.internal = f s.internal := congrArg f (run_internal_of_halted hm hn h)
  exact ⟨(kept (·.mode)).trans hm, kept (·.errCode), kept (·.errStage), kept (·.errFrame), kept (·.frameIdx),
    kept (·.rem), kept (·.raw), kept (·.cf), kept (·.t0), kept (·.t0Shape), kept (·.t1), kept (·.t1Shape)⟩
end

section
/-! ### In READY an event leaves MODE and the error report, or records one error (R231, R236) -/

namespace Sys2Proof.Machine

variable {s t : State}

/-- The mode an error enters, with the codes that enter it (R231, R233). -/
theorem ErrorKind.modeAfter_cases (e : ErrorKind) :
    (e.modeAfter = .error ∧ (e.code = 1 ∨ e.code = 2 ∨ e.code = 6 ∨ e.code = 7))
      ∨ (e.modeAfter = .halted ∧ (e.code = 3 ∨ e.code = 4 ∨ e.code = 5)) := by
  cases e <;> decide

/-- A command that is one step ends as the step did, or has recorded the error the step raised (R236). -/
theorem StepEnd.finish_unwritten {r : StepEnd} (hr : r.EndsIn fun u => u.unwritten = s.unwritten)
    (h : r.finish = .next t) :
    t.unwritten = s.unwritten ∨ ∃ e st u, r = .raised e st u ∧ t = raise e st u :=
  (StepEnd.finish_cases h).imp_left hr.of_done

/-- The same of FRAME, which releases buffers besides (R181). -/
theorem StepEnd.finishFrame_unwritten {r : StepEnd} (hr : r.EndsIn fun u => u.unwritten = s.unwritten)
    (h : r.finishFrame = .next t) :
    t.unwritten = s.unwritten ∨ ∃ e st u, r = .raised e st u ∧ t = raise e st (releaseAll u) := by
  rcases StepEnd.finishFrame_cases h with ⟨u, hu, rfl⟩ | hraised
  · exact .inl (hr.of_done hu :)
  · exact .inr hraised

/-- A command in READY leaves MODE and the error report, which no step writes, or records one error (R236). -/
theorem exec_unwritten_or_raise {i : Instr} (hm : s.mode = .ready) (h : exec i s = .next t) :
    t.unwritten = s.unwritten ∨ ∃ e st u, t = raise e st u := by
  have recorded {r : StepEnd} (hr : r.EndsIn fun u => u.unwritten = s.unwritten) (h : r.finish = .next t) :
      t.unwritten = s.unwritten ∨ ∃ e st u, t = raise e st u :=
    (StepEnd.finish_unwritten hr h).imp_right fun ⟨e, st, u, _, ht⟩ => ⟨e, st, u, ht⟩
  by_cases hi : i = .errclr
  · subst hi
    rw [exec_errclr_of_ready hm] at h
    cases h
    exact .inl rfl
  · cases exec_effect h with
    | returned => exact absurd rfl hi
    | unchanged => exact .inl rfl
    | cleared => exact .inl rfl
    | captured => exact .inl rfl
    | load _ _ h => exact recorded (frameReadStep_unwritten s) h
    | deint _ h => exact recorded (deintStep_unwritten s) h
    | reshape _ h => exact recorded (reshapeStep_unwritten s) h
    | permute _ h => exact recorded (permuteStep_unwritten s) h
    | frame _ _ h =>
      exact (StepEnd.finishFrame_unwritten (frameSteps_unwritten s) h).imp_right fun ⟨e, st, u, _, ht⟩ =>
        ⟨e, st, releaseAll u, ht⟩

/-- In READY every event but reset leaves MODE and the error code, or records one error (R231). -/
theorem step_kept_or_raise {x : Input} {rest : List Input} (hx : s.inputs = x :: rest) (h : step s = .next t)
    (hr : x ≠ .reset) (hm : s.mode = .ready) :
    (t.mode = .ready ∧ t.errCode = s.errCode) ∨ ∃ e st u, t = raise e st u := by
  rcases step_cases hx h with ⟨rfl, -⟩ | ⟨_, _, _, -, rfl⟩ | ⟨_, v, r, -, -, rfl⟩ | ⟨_, _, -, rfl⟩
    | ⟨_, _, rfl, -, hi⟩ | ⟨_, _, -, -, rfl⟩
  · exact absurd rfl hr
  · exact .inl ⟨hm, rfl⟩
  · exact .inl ⟨(State.writeReg_mode _ r v).trans hm, State.writeReg_errCode _ r v⟩
  · exact .inl ⟨hm, rfl⟩
  · refine (exec_unwritten_or_raise (s := takeInput rest s) hm hi).imp_left fun hu => ?_
    have hmode : t.mode = s.mode := congrArg (·.mode) hu
    exact ⟨hmode.trans hm, (congrArg (·.errCode) hu :)⟩
  · rw [if_pos hm]
    exact .inr ⟨_, _, _, rfl⟩

end Sys2Proof.Machine

open Sys2Proof Sys2Proof.Machine

/-- Settles O44: in READY `step_kept_or_raise` and the mode each error enters; elsewhere ERRCLR in ERROR returns, and any
other event but reset leaves what the host cannot write (`step_internal`). -/
theorem modeTransitions : Obligations.ModeTransitions := by
  intro s t x rest hx h
  have kept (hr : x ≠ .reset) (hm : s.mode ≠ .ready) (he : s.mode = .error → x ≠ .memWrite 0 (encode .errclr)) :
      t.mode = s.mode ∧ t.errCode = s.errCode ∧ t.errStage = s.errStage ∧ t.errFrame = s.errFrame :=
    have hint := (step_internal hx h hr hm he).1
    ⟨congrArg (·.mode) hint, congrArg (·.errCode) hint, congrArg (·.errStage) hint, congrArg (·.errFrame) hint⟩
  refine ⟨?_, fun hr hm => ?_, ?_, fun hr hne hm => ?_, fun hr hm => ?_⟩
  · rintro rfl
    rw [step_cons hx] at h
    cases h
    rfl
  · rcases step_kept_or_raise hx h hr hm with hkept | ⟨e, st, u, rfl⟩
    · exact .inl hkept
    · exact .inr e.modeAfter_cases
  · rintro rfl hm
    rw [step_command hx (decode_encode .errclr), exec_errclr_of_error (s := takeInput rest s) hm] at h
    cases h
    rfl
  · exact hm ▸ kept hr (by simp [hm]) fun _ => hne
  · exact hm ▸ kept hr (by simp [hm]) (by simp [hm])
end

section
/-! ### Which error a command can record, at which stage and for which frame (R233, R234, R237) -/

namespace Sys2Proof.Machine

variable {s t : State}

/-- The errors command `i` can record from a state that meets the invariants, each with its stage, at frame counter `k`:
those of the frame read; a stage's StaleOperand, which its own command alone can meet; and the two that speak of the resident
frame, which has been counted. PERMUTE's ShapeMismatch cannot arise (R163). -/
inductive CommandRaises (i : Instr) : ErrorKind → Stage → Word → Prop
  | read {e : ErrorKind} {k : Word} (hi : i = .load ∨ i = .frame) (he : e.modeAfter = .halted) : CommandRaises i e .load k
  | stale {st : Stage} {k : Word} (hi : (i = .deint ∧ st = .deint) ∨ (i = .reshape ∧ st = .reshape)
      ∨ (i = .permute ∧ st = .permute)) : CommandRaises i .staleOperand st k
  | size {k : Word} (hi : i = .deint ∨ i = .frame) (hk : 1 ≤ k.toNat) : CommandRaises i .invalidFrameSize .deint k
  | shape {k : Word} (hi : i = .reshape ∨ i = .frame) (hk : 1 ≤ k.toNat) : CommandRaises i .shapeMismatch .reshape k

/-- A step of command `i` that ends in a state with property `q`, or raises an error the command can record. -/
def StepEnd.RaisesIn (i : Instr) (q : State → Prop) : StepEnd → Prop
  | .done u => q u
  | .raised e st u => CommandRaises i e st u.frameIdx
  | .noValue => True

theorem StepEnd.RaisesIn.andThen {i : Instr} {q q' : State → Prop} {r : StepEnd} {f : State → StepEnd}
    (h : r.RaisesIn i q) (hs : r.Sound) (hf : ∀ u, Invariants u → q u → (f u).RaisesIn i q') :
    (r.andThen f).RaisesIn i q' :=
  match r, h, hs with
  | .done u, hu, hs => hf u hs hu
  | .raised _ _ _, he, _ => he

theorem frameReadStep_raises {i : Instr} (hi : i = .load ∨ i = .frame) :
    (frameReadStep s).RaisesIn i fun u => u.raw.valid = true := by
  rcases frameReadStep_cases s with ⟨-, e⟩ | ⟨-, u, -, e⟩ | ⟨-, u, -, e⟩ | ⟨-, b, u, -, e⟩ <;> rw [e]
  · exact .read hi rfl
  · exact .read hi rfl
  · exact .read hi rfl
  · exact Buffer.produced_valid _ _

/-- In FRAME the deinterleave step finds the frame just read. -/
theorem deintStep_raises {i : Instr} (h : Invariants s) (hi : i = .deint ∨ (i = .frame ∧ s.raw.valid = true)) :
    (deintStep s).RaisesIn i fun u => u.cf.valid = true := by
  rcases deintStep_cases s with ⟨hv, e⟩ | ⟨hv, -, e⟩ | ⟨-, -, -, e⟩ | ⟨-, -, _, -, e⟩ <;> rw [e]
  · exact .stale (.inl ⟨hi.resolve_right fun ⟨_, hv'⟩ => by simp [hv] at hv', rfl⟩)
  · exact .size (hi.imp_right And.left) (h.frameCounted (by simp [hv]))
  · trivial
  · exact Buffer.produced_valid _ _

/-- In FRAME the reshape step finds the ComplexFrame just made. -/
theorem reshapeStep_raises {i : Instr} (h : Invariants s) (hi : i = .reshape ∨ (i = .frame ∧ s.cf.valid = true)) :
    (reshapeStep s).RaisesIn i fun u => u.t0.valid = true := by
  rcases reshapeStep_cases s with ⟨hv, e⟩ | ⟨hv, -, e⟩ | ⟨-, -, -, -, e⟩ | ⟨-, -, -, _, -, e⟩ <;> rw [e]
  · exact .stale (.inr (.inl ⟨hi.resolve_right fun ⟨_, hv'⟩ => by simp [hv] at hv', rfl⟩))
  · exact .shape (hi.imp_right And.left) (h.frameCounted (by simp [hv]))
  · trivial
  · exact Buffer.produced_valid _ _

/-- In FRAME the permute step finds the tensor just built; its shape fits it, by the invariants (R163). -/
theorem permuteStep_raises {i : Instr} (h : Invariants s) (hi : i = .permute ∨ s.t0.valid = true) :
    (permuteStep s).RaisesIn i fun _ => True := by
  rcases permuteStep_cases s with ⟨hv, e⟩ | ⟨hv, hne, -⟩ | ⟨-, -, -, e⟩ | ⟨-, -, _, -, e⟩
  · rw [e]
    exact .stale (.inr (.inr ⟨hi.resolve_right (by simp [hv]), rfl⟩))
  · exact absurd (h.t0Fits hv).1 hne
  · exact e ▸ trivial
  · exact e ▸ trivial

/-- Each step of FRAME leaves the next one its operand, so that none is stale (R181, R182). -/
theorem frameSteps_raises (h : Invariants s) (hd : s.done = false) : (frameSteps s).RaisesIn .frame fun _ => True := by
  have sound1 := frameReadStep_sound h hd
  have sound2 := sound1.andThen fun _ => deintStep_sound
  have sound3 := sound2.andThen fun _ => reshapeStep_sound
  have raises1 := frameReadStep_raises (s := s) (i := .frame) (.inr rfl)
  have raises2 := raises1.andThen sound1 fun _ hu hv => deintStep_raises hu (.inr ⟨rfl, hv⟩)
  have raises3 := raises2.andThen sound2 fun _ hu hv => reshapeStep_raises hu (.inr ⟨rfl, hv⟩)
  exact raises3.andThen sound3 fun _ hu hv => permuteStep_raises hu (.inr hv)

/-- A command that leaves READY has recorded an error that it can record. -/
theorem exec_raises {i : Instr} (hI : Invariants s) (hm : s.mode = .ready) (h : exec i s = .next t)
    (ht : t.mode ≠ .ready) : ∃ e st u, t = raise e st u ∧ CommandRaises i e st u.frameIdx := by
  have leaves (hu : t.unwritten = s.unwritten) : False :=
    have hmode : t.mode = s.mode := congrArg (·.mode) hu
    ht (hmode.trans hm)
  have recorded {r : StepEnd} {q : State → Prop} (hr : r.EndsIn fun u => u.unwritten = s.unwritten)
      (hp : r.RaisesIn i q) (h : r.finish = .next t) : ∃ e st u, t = raise e st u ∧ CommandRaises i e st u.frameIdx := by
    obtain ⟨e, st, u, rfl, rfl⟩ := (StepEnd.finish_unwritten hr h).resolve_left leaves
    exact ⟨e, st, u, rfl, hp⟩
  cases exec_effect h with
  | unchanged => exact absurd hm ht
  | returned => exact absurd rfl ht
  | cleared => exact absurd hm ht
  | captured => exact absurd hm ht
  | load _ _ h => exact recorded (frameReadStep_unwritten s) (frameReadStep_raises (.inl rfl)) h
  | deint _ h => exact recorded (deintStep_unwritten s) (deintStep_raises hI (.inl rfl)) h
  | reshape _ h => exact recorded (reshapeStep_unwritten s) (reshapeStep_raises hI (.inl rfl)) h
  | permute _ h => exact recorded (permuteStep_unwritten s) (permuteStep_raises hI (.inl rfl)) h
  | frame _ hd h =>
    obtain ⟨e, st, u, hr, rfl⟩ := (StepEnd.finishFrame_unwritten (frameSteps_unwritten s) h).resolve_left leaves
    have hp := frameSteps_raises hI hd
    rw [hr] at hp
    exact ⟨e, st, releaseAll u, rfl, hp⟩

/-- An error that halts is one of the frame read, recorded for the frame at the counter (R231, R237). -/
theorem errorFrame_of_halted {e : ErrorKind} (he : e.modeAfter = .halted) : errorFrame e s = s.frameIdx := by
  cases e with
  | shortRead | sourceUnavailable | allocationFailure | staleOperand | illegalCommand => rfl
  | invalidFrameSize | shapeMismatch => cases he

/-- The resident frame is the one before the counter (R237). -/
theorem residentFrame_toNat_add_one (h : 1 ≤ s.frameIdx.toNat) : (residentFrame s).toNat + 1 = s.frameIdx.toNat := by
  rw [residentFrame_toNat h]
  omega

end Sys2Proof.Machine

open Sys2Proof Sys2Proof.Machine

/-- Settles O46: `exec_raises`, error by error. -/
theorem errorReportIdentifiesStageAndFrame : Obligations.ErrorReportIdentifiesStageAndFrame := by
  intro s t i hI hm h ht
  obtain ⟨e, st, u, rfl, hp⟩ := exec_raises hI hm h ht
  cases hp with
  | read hi he =>
    obtain ⟨herr, -⟩ | ⟨-, hcode⟩ := e.modeAfter_cases
    · rw [he] at herr
      cases herr
    · exact .inl ⟨hcode, rfl, hi, he, errorFrame_of_halted he⟩
  | stale hi =>
    refine .inr (.inl ⟨rfl, rfl, rfl, ?_⟩)
    rcases hi with ⟨hi, rfl⟩ | ⟨hi, rfl⟩ | ⟨hi, rfl⟩
    · exact .inl ⟨hi, rfl⟩
    · exact .inr (.inl ⟨hi, rfl⟩)
    · exact .inr (.inr ⟨hi, rfl⟩)
  | size hi hk => exact .inr (.inr (.inl ⟨rfl, rfl, rfl, hi, residentFrame_toNat_add_one hk⟩))
  | shape hi hk => exact .inr (.inr (.inr ⟨rfl, rfl, rfl, hi, residentFrame_toNat_add_one hk⟩))
end

section
/-! ### A word that ERROR or HALTED discards leaves no trace (R284) -/

open Sys2Proof Sys2Proof.Machine

/-- Settles O10: a legal word is discarded by `exec_discarded`, an illegal one by its own rule (R92). -/
theorem discardedCommandsLeaveNoTrace : Obligations.DiscardedCommandsLeaveNoTrace := by
  intro s c rest hx hdisc
  have hm : (takeInput rest s).mode ≠ .ready := by
    rcases hdisc with ⟨hm, -⟩ | hm <;> simp [hm]
  cases hc : decode c with
  | ok i =>
    rw [step_command hx hc]
    refine exec_discarded hm fun he hi => ?_
    rcases hdisc with ⟨-, hne⟩ | hhalt
    · exact hne (decode_eq_ok_iff.mp (hi ▸ hc))
    · cases hhalt.symm.trans he
  | error e =>
    rw [step_illegal hx hc]
    exact whenReady_of_not_ready hm
end

section
/-! ### The block in its reset state (R270, R276) -/

open Sys2Proof Sys2Proof.Machine

/-- Settles O38: serving the reset event is `resetEvent`, field by field. -/
theorem resetEventRestoresTheTable : Obligations.ResetEventRestoresTheTable :=
  fun _ _ hx => step_cons hx

/-- Settles O39: CFG_TOTAL is 0, so the DONE test holds; no buffer is valid; and the capture is already clear. -/
theorem resetStateIsSafe : Obligations.ResetStateIsSafe := by
  rintro u _ rfl
  have hdone : (resetEvent u).done = true := rfl
  have hready : (resetEvent u).mode = .ready := rfl
  have hnone : probeBuffer (resetEvent u) = .released := ite_self _
  exact ⟨exec_of_done hdone (.inl rfl), exec_of_done hdone (.inr rfl), exec_nop _, exec_errclr_of_ready hready,
    exec_probe_of_no_element hready (by simp [hnone, Buffer.released]), rfl, exec_deint_of_stale hready rfl,
    exec_reshape_of_stale hready rfl, exec_permute_of_stale hready rfl⟩
end

section
/-! ### T0 after PERMUTE (R160, R278) -/

namespace Sys2Proof.Machine

variable {s t : State}

/-- The permute step ends with T0 released, or raises StaleOperand on a T0 that was not valid (R160). -/
theorem permuteStep_consumes (s : State) : (permuteStep s).EndsIn fun u => u.t0.valid = false := by
  rcases permuteStep_cases s with ⟨hv, e⟩ | ⟨-, -, e⟩ | ⟨-, -, -, e⟩ | ⟨-, -, _, -, e⟩ <;> rw [e]
  · exact hv
  · rfl
  · trivial
  · rfl

theorem t0_invalid_of_exec_permute (hm : s.mode = .ready) (h : exec .permute s = .next t) : t.t0.valid = false :=
  (permuteStep_consumes s).finish (exec_permute_of_ready hm ▸ h) fun _ _ _ hu => hu

theorem exec_probe_of_invalid_t0 (hm : s.mode = .ready) (hsel : s.probeSel.getLsbD 0 = true)
    (hv : s.t0.valid = false) : exec .probe s = .next (clearProbe s) :=
  exec_probe_of_no_element hm (by simp [probeBuffer, probeSelectsT0, hsel, hv])

theorem windowWord_t0_of_invalid {w : Nat} (hv : s.t0.valid = false) : windowWord .t0 w s = none := by
  have hword : complexWord s.t0 w = none := complexWord_eq_none (.inl hv)
  simp only [windowWord, hword, ite_self]

end Sys2Proof.Machine

open Sys2Proof Sys2Proof.Machine

/-- Settles O23: T0 is not valid after PERMUTE (`t0_invalid_of_exec_permute`), and what follows needs no more. -/
theorem permutedTensorIsUnreachable : Obligations.PermutedTensorIsUnreachable := by
  intro s t hm _ h ht
  have hgone := t0_invalid_of_exec_permute hm h
  exact ⟨exec_permute_of_stale ht hgone,
    fun v hv => exec_probe_of_invalid_t0 (s := { t with probeSel := v }) ht hv hgone,
    fun w hw rest => step_readWindow_none (target_t0Window hw)
      (windowWord_t0_of_invalid (s := takeInput rest t) hgone) rfl⟩
end

section
/-! ### The registers a command samples (R281) -/

namespace Sys2Proof.Machine

variable {r s t : State}

/-- The registers of the host that each command samples (R281). -/
def State.sampled (s : State) : Instr → List Word
  | .nop | .errclr | .deint | .permute => []
  | .load => [s.cfgF, s.cfgTotal]
  | .reshape => [s.cfgN0, s.cfgN1, s.cfgN2]
  | .frame => [s.cfgF, s.cfgN0, s.cfgN1, s.cfgN2, s.cfgTotal]
  | .probe => [s.probeSel, s.pidx0, s.pidx1, s.pidx2, s.pidx3]

/-- `s` with the values that `r` holds in the registers of the host (R39, R46). -/
def State.withRegsOf (s r : State) : State :=
  { s with
    cfgF := r.cfgF, cfgN0 := r.cfgN0, cfgN1 := r.cfgN1, cfgN2 := r.cfgN2, cfgTotal := r.cfgTotal
    probeSel := r.probeSel, pidx0 := r.pidx0, pidx1 := r.pidx1, pidx2 := r.pidx2, pidx3 := r.pidx3 }

/-- The end of a step with the values that `r` holds in the registers of the host. -/
def StepEnd.withRegsOf (p : StepEnd) (r : State) : StepEnd :=
  match p with
  | .done u => .done (u.withRegsOf r)
  | .raised e st u => .raised e st (u.withRegsOf r)
  | .noValue => .noValue

theorem raise_withRegsOf (e : ErrorKind) (st : Stage) (s r : State) :
    raise e st (s.withRegsOf r) = (raise e st s).withRegsOf r := by
  cases e <;> rfl

theorem StepEnd.finish_withRegsOf {p : StepEnd} (h : p.finish = .next t) :
    (p.withRegsOf r).finish = .next (t.withRegsOf r) := by
  rcases StepEnd.finish_cases h with rfl | ⟨e, st, u, rfl, rfl⟩
  · rfl
  · exact congrArg _ (raise_withRegsOf e st u r)

theorem StepEnd.finishFrame_withRegsOf {p : StepEnd} (h : p.finishFrame = .next t) :
    (p.withRegsOf r).finishFrame = .next (t.withRegsOf r) := by
  rcases StepEnd.finishFrame_cases h with ⟨u, rfl, rfl⟩ | ⟨e, st, u, rfl, rfl⟩
  · rfl
  · exact congrArg _ (raise_withRegsOf e st (releaseAll u) r)

theorem StepEnd.EndsIn.of_forall {p : State → Prop} {q : StepEnd} (h : ∀ u, p u) : q.EndsIn p :=
  match q with
  | .done u => h u
  | .raised _ _ u => h u
  | .noValue => trivial

theorem StepEnd.andThen_withRegsOf {p : StepEnd} {f : State → StepEnd}
    (hf : p.EndsIn fun u => f (u.withRegsOf r) = (f u).withRegsOf r) :
    (p.withRegsOf r).andThen f = (p.andThen f).withRegsOf r :=
  match p, hf with
  | .done _, hf => hf
  | .raised _ _ _, _ => rfl
  | .noValue, _ => rfl

/-- DEINT samples no register of the host: RAW_LEN stands with the buffer. -/
theorem deintStep_withRegsOf (s r : State) : deintStep (s.withRegsOf r) = (deintStep s).withRegsOf r := by
  have hraw : (s.withRegsOf r).raw = s.raw := rfl
  simp only [deintStep, hraw]
  split
  · split
    · split <;> rfl
    · rfl
  · rfl

/-- PERMUTE samples no register of the host: T0's shape stands with the buffer. -/
theorem permuteStep_withRegsOf (s r : State) : permuteStep (s.withRegsOf r) = (permuteStep s).withRegsOf r := by
  have ht0 : (s.withRegsOf r).t0 = s.t0 := rfl
  have hshape : (s.withRegsOf r).t0Shape = s.t0Shape := rfl
  simp only [permuteStep, ht0, hshape]
  split
  · split
    · split <;> rfl
    · rfl
  · rfl

theorem reshapeStep_withRegsOf (h : r.sampled .reshape = s.sampled .reshape) :
    reshapeStep (s.withRegsOf r) = (reshapeStep s).withRegsOf r := by
  simp only [State.sampled, List.cons.injEq, and_true] at h
  obtain ⟨h0, h1, h2⟩ := h
  have hcf : (s.withRegsOf r).cf = s.cf := rfl
  have hP : geometryProduct (s.withRegsOf r) = geometryProduct s := by
    simp only [geometryProduct, State.withRegsOf, h0, h1, h2]
  have hN0 : (s.withRegsOf r).cfgN0 = s.cfgN0 := h0
  have hN1 : (s.withRegsOf r).cfgN1 = s.cfgN1 := h1
  have hN2 : (s.withRegsOf r).cfgN2 = s.cfgN2 := h2
  simp only [reshapeStep, hcf, hP, hN0, hN1, hN2]
  split
  · split
    · rfl
    · split <;> rfl
  · rfl

theorem afterRequest_withRegsOf (s r : State) : (s.withRegsOf r).afterRequest = s.afterRequest.withRegsOf r := by
  have hplan : (s.withRegsOf r).srcPlan = s.srcPlan := rfl
  simp only [State.afterRequest, hplan]
  split <;> rfl

theorem srcRead_withRegsOf (n : Nat) (s r : State) :
    srcRead n (s.withRegsOf r) = ((srcRead n s).1, (srcRead n s).2.withRegsOf r) := by
  have hread : (s.withRegsOf r).sourceReadable = s.sourceReadable := rfl
  have hrem : (s.withRegsOf r).rem = s.rem := rfl
  simp only [srcRead, hread, hrem, afterRequest_withRegsOf]
  split
  · rfl
  · split
    · split <;> rfl
    · rfl

theorem frameReadStep_withRegsOf (hF : r.cfgF = s.cfgF) :
    frameReadStep (s.withRegsOf r) = (frameReadStep s).withRegsOf r := by
  have hF' : (s.withRegsOf r).cfgF = s.cfgF := hF
  have hcap : (s.withRegsOf r).rawCap = s.rawCap := rfl
  have hclear : clearProbe (releaseAll (s.withRegsOf r)) = (clearProbe (releaseAll s)).withRegsOf r := rfl
  simp only [frameReadStep, hF', hcap, hclear, srcRead_withRegsOf]
  split
  · rfl
  · obtain ⟨a, u⟩ := srcRead (2 * s.cfgF.toNat) (clearProbe (releaseAll s))
    cases a <;> rfl

/-- Each step of FRAME meets the registers as they were: the frame read and DEINT write none that RESHAPE samples. -/
theorem frameSteps_withRegsOf (h : r.sampled .frame = s.sampled .frame) :
    frameSteps (s.withRegsOf r) = (frameSteps s).withRegsOf r := by
  simp only [State.sampled, List.cons.injEq, and_true] at h
  obtain ⟨hF, h0, h1, h2, -⟩ := h
  have hgeometry : r.sampled .reshape = s.sampled .reshape := by simp only [State.sampled, h0, h1, h2]
  have kept : ((frameReadStep s).andThen deintStep).EndsIn fun u => u.unwritten = s.unwritten :=
    (frameReadStep_unwritten s).andThen fun u hu => (deintStep_unwritten u).mono fun _ hv => hv.trans hu
  have reshape : ((frameReadStep s).andThen deintStep).EndsIn
      fun u => reshapeStep (u.withRegsOf r) = (reshapeStep u).withRegsOf r :=
    kept.mono fun u hu => reshapeStep_withRegsOf (hgeometry.trans (congrArg (·.sampled .reshape) hu).symm)
  rw [frameSteps, frameReadStep_withRegsOf hF, StepEnd.andThen_withRegsOf (.of_forall (deintStep_withRegsOf · r)),
    StepEnd.andThen_withRegsOf reshape, StepEnd.andThen_withRegsOf (.of_forall (permuteStep_withRegsOf · r)), frameSteps]

theorem done_withRegsOf (h : r.cfgTotal = s.cfgTotal) : (s.withRegsOf r).done = s.done := by
  simp only [State.done, State.withRegsOf, h]

theorem exec_load_withRegsOf (hm : s.mode = .ready) (hs : r.sampled .load = s.sampled .load)
    (h : exec .load s = .next t) : exec .load (s.withRegsOf r) = .next (t.withRegsOf r) := by
  simp only [State.sampled, List.cons.injEq, and_true] at hs
  obtain ⟨hF, htotal⟩ := hs
  have hdone := done_withRegsOf htotal
  cases hd : s.done with
  | true =>
    cases (exec_of_done hd (.inl rfl)).symm.trans h
    exact exec_of_done (hdone.trans hd) (.inl rfl)
  | false =>
    rw [exec_load_of_ready hm hd] at h
    rw [exec_load_of_ready (s := s.withRegsOf r) hm (hdone.trans hd), frameReadStep_withRegsOf hF]
    exact StepEnd.finish_withRegsOf h

theorem exec_frame_withRegsOf (hm : s.mode = .ready) (hs : r.sampled .frame = s.sampled .frame)
    (h : exec .frame s = .next t) : exec .frame (s.withRegsOf r) = .next (t.withRegsOf r) := by
  have hsteps := frameSteps_withRegsOf hs
  simp only [State.sampled, List.cons.injEq, and_true] at hs
  obtain ⟨-, -, -, -, htotal⟩ := hs
  have hdone := done_withRegsOf htotal
  cases hd : s.done with
  | true =>
    cases (exec_of_done hd (.inr rfl)).symm.trans h
    exact exec_of_done (hdone.trans hd) (.inr rfl)
  | false =>
    rw [exec_frame_of_ready hm hd] at h
    rw [exec_frame_of_ready (s := s.withRegsOf r) hm (hdone.trans hd), hsteps]
    exact StepEnd.finishFrame_withRegsOf h

/-- PROBE addresses the same element. -/
theorem exec_probe_withRegsOf (hm : s.mode = .ready) (hs : r.sampled .probe = s.sampled .probe)
    (h : exec .probe s = .next t) : exec .probe (s.withRegsOf r) = .next (t.withRegsOf r) := by
  have hready : (s.withRegsOf r).mode = .ready := hm
  have hsame : (s.withRegsOf r).sampled .probe = s.sampled .probe := hs
  simp only [State.sampled, List.cons.injEq, and_true] at hsame
  obtain ⟨hsel, h0, h1, h2, h3⟩ := hsame
  have hbuffer : probeBuffer (s.withRegsOf r) = probeBuffer s := by
    rw [probeBuffer, probeSelectsT0, hsel]
    rfl
  have hshape : probeShape (s.withRegsOf r) = probeShape s := by
    rw [probeShape, probeSelectsT0, hsel]
    rfl
  have hindex : probeIndex (s.withRegsOf r) = probeIndex s := by
    rw [probeIndex, hshape, h0, h1, h2, h3, probeIndex]
  have hp : execProbe s = .next t := h
  rcases execProbe_cases s hm with ⟨hout, e⟩ | ⟨-, hin, ⟨-, e⟩ | ⟨x, hx, e⟩⟩ <;> rw [e] at hp <;> cases hp
  · refine exec_probe_of_no_element hready fun hv => ?_
    rw [hshape, h0, h1, h2, h3]
    exact hout.resolve_left (by simp [← hbuffer, hv])
  · exact exec_probe_of_element hready (by rw [hshape, h0, h1, h2, h3, hin]) (by rw [hbuffer, hindex, hx])

/-- A command does the same whatever stands in the host's registers that it does not sample, and carries them along. -/
theorem exec_withRegsOf {i : Instr} (hs : r.sampled i = s.sampled i) (h : exec i s = .next t) :
    exec i (s.withRegsOf r) = .next (t.withRegsOf r) := by
  have atRest (hx : ∀ u : State, u.mode = s.mode → exec i u = .next u) :
      exec i (s.withRegsOf r) = .next (t.withRegsOf r) := by
    cases (hx s rfl).symm.trans h
    exact hx (s.withRegsOf r) rfl
  by_cases hm : s.mode = .ready
  · have hready : (s.withRegsOf r).mode = .ready := hm
    cases i with
    | nop => exact atRest fun u _ => exec_nop u
    | errclr => exact atRest fun u hu => exec_errclr_of_ready (hu.trans hm)
    | load => exact exec_load_withRegsOf hm hs h
    | frame => exact exec_frame_withRegsOf hm hs h
    | probe => exact exec_probe_withRegsOf hm hs h
    | deint =>
      rw [exec_deint_of_ready hm] at h
      rw [exec_deint_of_ready hready, deintStep_withRegsOf]
      exact StepEnd.finish_withRegsOf h
    | reshape =>
      rw [exec_reshape_of_ready hm] at h
      rw [exec_reshape_of_ready hready, reshapeStep_withRegsOf hs]
      exact StepEnd.finish_withRegsOf h
    | permute =>
      rw [exec_permute_of_ready hm] at h
      rw [exec_permute_of_ready hready, permuteStep_withRegsOf]
      exact StepEnd.finish_withRegsOf h
  · by_cases hclear : s.mode = .error ∧ i = .errclr
    · obtain ⟨he, rfl⟩ := hclear
      cases (exec_errclr_of_error he).symm.trans h
      exact exec_errclr_of_error (s := s.withRegsOf r) he
    · exact atRest fun u hu => exec_discarded (hu ▸ hm) fun he hi => hclear ⟨hu ▸ he, hi⟩

/-- No command writes a register of the host, so its end holds the values of its start already. -/
theorem withRegsOf_of_exec {i : Instr} (h : exec i s = .next t) : t.withRegsOf s = t := by
  have hkept := exec_hostRegs h
  simp only [State.hostRegs, List.cons.injEq, and_true] at hkept
  obtain ⟨hF, h0, h1, h2, htotal, hsel, hi0, hi1, hi2, hi3⟩ := hkept
  simp only [State.withRegsOf, ← hF, ← h0, ← h1, ← h2, ← htotal, ← hsel, ← hi0, ← hi1, ← hi2, ← hi3]

end Sys2Proof.Machine

open Sys2Proof Sys2Proof.Machine

/-- Settles O50: `exec_withRegsOf`, with the other registers those of the start, which the command has not written. -/
theorem commandsSampleOnlyTheirRegisters : Obligations.CommandsSampleOnlyTheirRegisters := by
  intro s t f a b c total sel i0 i1 i2 i3
  refine ⟨fun i hi h => ?_, fun h => ?_, fun h => ?_, fun i hi h => ?_⟩
  · have hs : { s with cfgF := f, cfgN0 := a, cfgN1 := b, cfgN2 := c, cfgTotal := total }.sampled i = s.sampled i := by
      simp only [List.mem_cons, List.not_mem_nil, or_false] at hi
      rcases hi with rfl | rfl | rfl | rfl | rfl <;> rfl
    rw [← withRegsOf_of_exec h]
    exact exec_withRegsOf (t := t) hs h
  · rw [← withRegsOf_of_exec h]
    exact exec_withRegsOf (r := { s with cfgN0 := a, cfgN1 := b, cfgN2 := c }) (t := t) rfl h
  · rw [← withRegsOf_of_exec h]
    exact exec_withRegsOf (r := { s with cfgF := f, cfgTotal := total }) (t := t) rfl h
  · have hs : { s with probeSel := sel, pidx0 := i0, pidx1 := i1, pidx2 := i2, pidx3 := i3 }.sampled i = s.sampled i := by
      cases i with
      | probe => exact absurd rfl hi
      | nop | errclr | deint | permute | load | reshape | frame => rfl
    rw [← withRegsOf_of_exec h]
    exact exec_withRegsOf (t := t) hs h
end

section
/-! ### The queue of events and RAW_CAP (R6, R61, R271) -/

namespace Sys2Proof.Machine

variable {s t : State}

/-- The state with every field blanked that some command writes: what is left are the registers of the host, the queue, the
reply and RAW_CAP. -/
def State.uncommanded (s : State) : State :=
  { s.unwritten with mode := .ready, errCode := 0, errStage := 0, errFrame := 0 }

/-- No command writes a register of the host, the queue, the reply or RAW_CAP. -/
theorem exec_uncommanded {i : Instr} (h : exec i s = .next t) : t.uncommanded = s.uncommanded := by
  have kept {r : StepEnd} (hr : r.EndsIn fun u => u.unwritten = s.unwritten) :
      r.EndsIn fun u => u.uncommanded = s.uncommanded :=
    hr.mono fun _ hu => congrArg (·.uncommanded) hu
  cases exec_effect h with
  | unchanged => rfl
  | returned => rfl
  | cleared => rfl
  | captured => rfl
  | load _ _ h => exact (kept (frameReadStep_unwritten s)).finish h fun _ _ _ hu => hu
  | deint _ h => exact (kept (deintStep_unwritten s)).finish h fun _ _ _ hu => hu
  | reshape _ h => exact (kept (reshapeStep_unwritten s)).finish h fun _ _ _ hu => hu
  | permute _ h => exact (kept (permuteStep_unwritten s)).finish h fun _ _ _ hu => hu
  | frame _ _ h => exact (kept (frameSteps_unwritten s)).finishFrame h (fun _ hu => hu) fun _ _ _ hu => hu

/-- Whatever event is served, the events behind it stay in the queue and RAW_CAP keeps its value. -/
theorem step_inputs_rawCap {x : Input} {rest : List Input} (hx : s.inputs = x :: rest) (h : step s = .next t) :
    t.inputs = rest ∧ t.rawCap = s.rawCap := by
  rcases step_cases hx h with ⟨-, rfl⟩ | ⟨_, _, _, -, rfl⟩ | ⟨_, v, r, -, -, rfl⟩ | ⟨_, _, -, rfl⟩
    | ⟨_, _, -, -, hi⟩ | ⟨_, _, -, -, rfl⟩
  · exact ⟨rfl, rfl⟩
  · exact ⟨rfl, rfl⟩
  · exact ⟨State.writeReg_inputs _ r v, State.writeReg_rawCap _ r v⟩
  · exact ⟨rfl, rfl⟩
  · have hkept := exec_uncommanded hi
    exact ⟨congrArg (·.inputs) hkept, congrArg (·.rawCap) hkept⟩
  · split <;> exact ⟨rfl, rfl⟩

end Sys2Proof.Machine

open Sys2Proof Sys2Proof.Machine

/-- Settles O7: an empty queue has the empty tail and nothing changes; else `step_inputs_rawCap`. -/
theorem stepTakesOneInputAndKeepsRawCap : Obligations.StepTakesOneInputAndKeepsRawCap := by
  intro s t h
  cases hx : s.inputs with
  | nil =>
    rw [step_nil hx] at h
    cases h
    exact ⟨hx, rfl⟩
  | cons x rest => exact step_inputs_rawCap hx h

/-- Settles O6: the model's law of the empty queue, `step_nil`. -/
theorem stepWaitsWithoutInput : Obligations.StepWaitsWithoutInput := fun _ => step_nil
end
